-- ==== Sys2Proof/Word.lean ====
section
/-! DEFINITION. The words of the block: the 32-bit register word, the 8-bit duty and phase byte, the 64-bit
transaction word (00_scope R7, R9; 30_encoding R80). -/

namespace Sys2Proof

/-- A device register: `REG_W` = 32 bits (10_state R22). -/
abbrev Word := BitVec 32

/-- A duty value or the phase counter (10_state R43). -/
abbrev Byte := BitVec 8

/-- A transaction word T (30_encoding R80). -/
abbrev Txn := BitVec 64

end Sys2Proof
end

