-- ==== Sys2Proof/Syntax.lean ====
section
/-! DEFINITION. The operations of spec/opcode_table.json as one inductive, the agents that issue them, the register
units, and the reasons a word is refused. -/

namespace Sys2Proof

/-- The four agents whose steps interleave (20_memory R60). -/
inductive Agent where
  | host
  | seq
  | timer
  | env
deriving DecidableEq, Repr, Inhabited

/-- The five register units (10_state R24). -/
inductive RegUnit where
  | gpioIn
  | gpioOut
  | tmr
  | intc
  | core
deriving DecidableEq, Repr

/-- The seven operation kinds that are not reserved (30_encoding R81). -/
inductive Kind where
  | rd
  | wr
  | sample
  | tclk
  | strobe
  | setie
  | reset
deriving DecidableEq, Repr

/-- The registers of the map 20_memory R65, with every value of an index field (30_encoding R82). -/
inductive Reg where
  | gpioInData
  | gpioInTri
  | gpioOutData
  | gpioOutTri
  | tcsr (c : Fin 2)
  | tlr (c : Fin 2)
  | tcr (c : Fin 2)
  | isr
  | ipr
  | ier
  | iar
  | mer
  | dbState
  | phase
  | blink
  | duty (k : Fin 4)
deriving DecidableEq, Repr

/-- The refusal reasons of 60_exceptions R203, in the order of their codes 1 to 9. -/
inductive RefuseReason where
  | reservedKind
  | reservedField
  | wrongIssuer
  | reservedUnit
  | noSuchRegister
  | indexRange
  | reservedStrobe
  | reservedDataBits
  | unsupportedTimerMode
deriving DecidableEq, Repr

/-- One constructor per row of spec/opcode_table.json (30_encoding R95), in the rows' order. `c` is a timer
channel, `k` a PWM channel, `i` a debounce line, `d` the DATA field of a WR. -/
inductive Instr where
  | rdGpioInData
  | rdGpioInTri
  | wrGpioInTri (d : Word)
  | rdGpioOutData
  | wrGpioOutData (d : Word)
  | rdGpioOutTri
  | wrGpioOutTri (d : Word)
  | rdTmrTcsr (c : Fin 2)
  | wrTmrTcsr (c : Fin 2) (d : Word)
  | rdTmrTlr (c : Fin 2)
  | wrTmrTlr (c : Fin 2) (d : Word)
  | rdTmrTcr (c : Fin 2)
  | rdIntcIsr
  | rdIntcIpr
  | rdIntcIer
  | wrIntcIer (d : Word)
  | wrIntcIar (d : Word)
  | rdIntcMer
  | wrIntcMer (d : Word)
  | rdCoreDbState
  | rdCorePhase
  | rdCoreBlink
  | rdCoreDuty (k : Fin 3)
  | wrCoreDuty (k : Fin 3) (d : Word)
  | sample (i : Fin 32) (raw : Bool)
  | tclk (c : Fin 2)
  | strobePwmTick
  | strobeBlinkToggle
  | setIe (v : Bool)
  | reset
deriving DecidableEq, Repr

/-- The kind of an operation (30_encoding R81, R95). -/
def Instr.kind : Instr → Kind
  | .rdGpioInData | .rdGpioInTri | .rdGpioOutData | .rdGpioOutTri => .rd
  | .rdTmrTcsr _ | .rdTmrTlr _ | .rdTmrTcr _ => .rd
  | .rdIntcIsr | .rdIntcIpr | .rdIntcIer | .rdIntcMer => .rd
  | .rdCoreDbState | .rdCorePhase | .rdCoreBlink | .rdCoreDuty _ => .rd
  | .wrGpioInTri _ | .wrGpioOutData _ | .wrGpioOutTri _ => .wr
  | .wrTmrTcsr _ _ | .wrTmrTlr _ _ => .wr
  | .wrIntcIer _ | .wrIntcIar _ | .wrIntcMer _ => .wr
  | .wrCoreDuty _ _ => .wr
  | .sample _ _ => .sample
  | .tclk _ => .tclk
  | .strobePwmTick | .strobeBlinkToggle => .strobe
  | .setIe _ => .setie
  | .reset => .reset

end Sys2Proof
end

