-- ==== Sys2Proof/Config.lean ====
section
/-! DEFINITION. The parameters of 00_scope R7, the profiles of 92_eei_decisions D24, the OPEN parameters, and the free
values: the environment's draws and the choice of the next agent. -/

namespace Sys2Proof

/-- The action of a timer channel's service (00_scope R7 `CH_ACTION`). -/
inductive ChAction where
  | pwmTick
  | blinkToggle
  | none
deriving DecidableEq, Repr

/-- The parameters a model takes as an argument (00_scope R7). The upper bounds are in the types; `Config.Legal`
holds the rest. DESIGN CHOICE (log 8): the configuration stands in State and no step writes it. -/
structure Config where
  /-- `N_LINES`, legal 1 to 32. -/
  nLines : Fin 33
  /-- `N_PWM`, legal 2 or 3. -/
  nPwm : Fin 4
  /-- `N_TCH`, legal 1 or 2. -/
  nTch : Fin 3
  /-- `CH_ACTION[c]`; an entry at or above `N_TCH` is never used. -/
  chAction : Vector ChAction 2
  /-- `OUT_RESET`, of which only the low `N_PWM` bits exist. -/
  outReset : BitVec 3
deriving DecidableEq, Repr

/-- The legal values of 00_scope R7 that the types do not already enforce. -/
abbrev Config.Legal (cfg : Config) : Prop :=
  1 ≤ cfg.nLines.val ∧ 2 ≤ cfg.nPwm.val ∧ 1 ≤ cfg.nTch.val ∧ cfg.outReset.toNat < 2 ^ cfg.nPwm.val

/-- Profile `P_DUAL`, the default (92_eei_decisions D24; 00_scope R7 for N_LINES and OUT_RESET). -/
def Config.pDual : Config :=
  { nLines := 2, nPwm := 3, nTch := 2, chAction := #v[.pwmTick, .blinkToggle], outReset := 0 }

/-- Profile `P_PWM` (92_eei_decisions D24). -/
def Config.pPwm : Config :=
  { nLines := 2, nPwm := 3, nTch := 1, chAction := #v[.pwmTick, .none], outReset := 0 }

/-- Profile `P_FSM` (92_eei_decisions D24). -/
def Config.pFsm : Config :=
  { nLines := 2, nPwm := 2, nTch := 1, chAction := #v[.blinkToggle, .none], outReset := 0 }

/-- The byte order of a host-level byte view (20_memory R67). -/
inductive Endian where
  | little
  | big
deriving DecidableEq, Repr, Inhabited

/-- OPEN parameters `BASE_GPIO_IN` … `BASE_CORE` (20_memory R64, D4): no value can be proved (log 17). -/
opaque Config.base : RegUnit → Nat

/-- OPEN parameter `HOST_ENDIAN` (20_memory R67, D20): no value can be proved (log 17). -/
opaque Config.hostEndian : Endian

/-- FREE VALUE (log 7): the electrical levels of the input pins at the n-th draw (40_debounce R105). -/
opaque Config.pinDraw : Nat → Word

/-- FREE VALUE (log 1): the agent that moves at step n when `inputs` names none (20_memory R60). -/
opaque Config.freeAgent : Nat → Agent

/-- FREE VALUE (log 1): the word the host issues at step n when `inputs` holds none (20_memory R61). -/
opaque Config.freeWord : Nat → Txn

/-- FREE VALUE (log 1): the channel whose timer event comes at step n when `inputs` holds none (20_memory R63). -/
opaque Config.freeChannel : Nat → Fin 2

end Sys2Proof
end

