-- ==== Sys2Proof/Machine/Operands.lean ====
section
/-! DEFINITION. The operand forms of a transaction word and the register map: fields of the word (30_encoding R80,
R82 to R87), units and offsets (20_memory R64, R65), the reserved bits of each register (10_state R25 to R43), and
the host's view of an address and of a byte (20_memory R64, R67). -/

namespace Sys2Proof

/-! ### Fields of the transaction word -/

/-- T[63:60], `KIND` (30_encoding R80). -/
def Txn.kindField (T : Txn) : BitVec 4 := T.extractLsb' 60 4

/-- T[59:56], `UNIT` (30_encoding R80). -/
def Txn.unitField (T : Txn) : BitVec 4 := T.extractLsb' 56 4

/-- T[55:40], `RSV` (30_encoding R80). -/
def Txn.rsv (T : Txn) : BitVec 16 := T.extractLsb' 40 16

/-- T[39:32], `SEL` (30_encoding R80). -/
def Txn.sel (T : Txn) : BitVec 8 := T.extractLsb' 32 8

/-- T[31:0], `DATA`, taken whole (30_encoding R80, R82, R89). -/
def Txn.data (T : Txn) : Word := T.extractLsb' 0 32

/-- The word with the given fields and `RSV` = 0 (30_encoding R80). -/
def Txn.ofFields (k u : BitVec 4) (s : BitVec 8) (d : Word) : Txn :=
  k ++ u ++ (0 : BitVec 16) ++ s ++ d

/-- The code of a kind (30_encoding R81). -/
def Kind.code : Kind → BitVec 4
  | .rd => 0x0
  | .wr => 0x1
  | .sample => 0x2
  | .tclk => 0x3
  | .strobe => 0x4
  | .setie => 0x5
  | .reset => 0x6

/-- The kind of a code; 0x7 to 0xF are reserved (30_encoding R81). -/
def Kind.ofCode (k : BitVec 4) : Option Kind :=
  match k.toNat with
  | 0 => some .rd
  | 1 => some .wr
  | 2 => some .sample
  | 3 => some .tclk
  | 4 => some .strobe
  | 5 => some .setie
  | 6 => some .reset
  | _ => none

/-- The agents that may issue a kind: the issuer column of 30_encoding R81. -/
def mayIssue : Agent → Kind → Bool
  | .host, .rd | .host, .wr | .host, .sample | .host, .setie => true
  | .seq, .rd | .seq, .wr | .seq, .strobe => true
  | .timer, .tclk => true
  | .env, .reset => true
  | _, _ => false

/-- The code of a refusal reason (60_exceptions R203). -/
def RefuseReason.number : RefuseReason → Nat
  | .reservedKind => 1
  | .reservedField => 2
  | .wrongIssuer => 3
  | .reservedUnit => 4
  | .noSuchRegister => 5
  | .indexRange => 6
  | .reservedStrobe => 7
  | .reservedDataBits => 8
  | .unsupportedTimerMode => 9

/-! ### The register map -/

/-- UNIT codes (10_state R24). -/
def RegUnit.code : RegUnit → BitVec 4
  | .gpioIn => 0x0
  | .gpioOut => 0x1
  | .tmr => 0x2
  | .intc => 0x3
  | .core => 0x4

/-- Window sizes in bytes (20_memory R64). -/
def RegUnit.windowSize : RegUnit → Nat
  | .gpioIn => 0x08
  | .gpioOut => 0x08
  | .tmr => 0x20
  | .intc => 0x20
  | .core => 0x20

/-- The unit of a register (20_memory R65). -/
def Reg.unit : Reg → RegUnit
  | .gpioInData | .gpioInTri => .gpioIn
  | .gpioOutData | .gpioOutTri => .gpioOut
  | .tcsr _ | .tlr _ | .tcr _ => .tmr
  | .isr | .ipr | .ier | .iar | .mer => .intc
  | .dbState | .phase | .blink | .duty _ => .core

/-- The byte offset of a register in its window (20_memory R65). -/
def Reg.offset : Reg → BitVec 8
  | .gpioInData | .gpioOutData => 0x00
  | .gpioInTri | .gpioOutTri => 0x04
  | .tcsr c => 0x00 + 0x10 * BitVec.ofNat 8 c.val
  | .tlr c => 0x04 + 0x10 * BitVec.ofNat 8 c.val
  | .tcr c => 0x08 + 0x10 * BitVec.ofNat 8 c.val
  | .isr => 0x00
  | .ipr => 0x04
  | .ier => 0x08
  | .iar => 0x0C
  | .mer => 0x1C
  | .dbState => 0x00
  | .phase => 0x04
  | .blink => 0x08
  | .duty k => 0x10 + 4 * BitVec.ofNat 8 k.val

/-- Every register of the map, the indexed rows with every value of their index field (20_memory R65). -/
def allRegs : List Reg :=
  [.gpioInData, .gpioInTri, .gpioOutData, .gpioOutTri,
   .tcsr 0, .tlr 0, .tcr 0, .tcsr 1, .tlr 1, .tcr 1,
   .isr, .ipr, .ier, .iar, .mer,
   .dbState, .phase, .blink, .duty 0, .duty 1, .duty 2, .duty 3]

/-- The register a pair (UNIT, SEL) names, whatever the direction; none for every other pair, offsets that are
no multiple of 4 among them (20_memory R65, R66). -/
def regAt (u : BitVec 4) (s : BitVec 8) : Option Reg :=
  allRegs.find? fun r => r.unit.code == u && r.offset == s

/-- The value whose low n bits are 1, for n ≤ 32: the mask of a field [n-1:0] (00_scope R9). -/
def lowMask (n : Nat) : Word := BitVec.ofNat 32 (2 ^ n - 1)

/-- The word whose bit j is the j-th entry of the list, bits beyond the list 0 (00_scope R9). -/
def bitsWord (bs : List Bool) : Word := (BitVec.ofBoolListLE bs).setWidth 32

/-- The implemented TCSR bits UDT, ARHT, LOAD, ENIT, ENT, TINT (10_state R32). -/
def tcsrMask : Word := 0x1F2

/-- The bits of a register that a WR may set; every other bit is reserved (10_state R23, R25 to R43). A register with
no WR row has none. -/
def Reg.writableBits (cfg : Config) : Reg → Word
  | .gpioInTri => lowMask cfg.nLines.val
  | .gpioOutData | .gpioOutTri => lowMask cfg.nPwm.val
  | .tcsr _ => tcsrMask
  | .tlr _ => 0xFFFFFFFF
  | .ier | .iar => 0x1
  | .mer => 0x3
  | .duty _ => 0xFF
  | .gpioInData | .tcr _ | .isr | .ipr | .dbState | .phase | .blink => 0

/-- D has a 1 in a reserved bit of the register (10_state R23). -/
def Reg.setsReserved (cfg : Config) (r : Reg) (d : Word) : Bool :=
  d &&& ~~~(r.writableBits cfg) != 0

/-! ### The host's view -/

/-- The host address of a register, for a processor-level model (20_memory R64). -/
def Reg.hostAddress (r : Reg) : Nat := Config.base r.unit + r.offset.toNat

/-- Byte j of a register value in the host's byte view, under the OPEN byte order (20_memory R67). -/
def hostByte (v : Word) (j : Fin 4) : Byte :=
  match Config.hostEndian with
  | .little => v.extractLsb' (8 * j.val) 8
  | .big => v.extractLsb' (8 * (3 - j.val)) 8

end Sys2Proof
end

