-- ==== Sys2Proof/WellFormed.lean ====
section
/-! DEFINITION. Which instruction terms stand for a word the decoder accepts: indices below the configured counts and
no 1 in a reserved data bit (30_encoding R88, 10_state R23). -/

namespace Sys2Proof

/-- `i` is an operation of the block under `cfg`: its index is below N_LINES, N_TCH or N_PWM (`INDEX_RANGE`), and its data
has no 1 in a reserved bit of the register written (`RESERVED_DATA_BITS`). -/
def wellFormed (cfg : Config) : Instr → Bool
  | .wrGpioInTri d => !(Reg.gpioInTri.setsReserved cfg d)
  | .wrGpioOutData d => !(Reg.gpioOutData.setsReserved cfg d)
  | .wrGpioOutTri d => !(Reg.gpioOutTri.setsReserved cfg d)
  | .rdTmrTcsr c | .rdTmrTlr c | .rdTmrTcr c => c.val < cfg.nTch.val
  | .wrTmrTcsr c d => c.val < cfg.nTch.val && !((Reg.tcsr c).setsReserved cfg d)
  | .wrTmrTlr c d => c.val < cfg.nTch.val && !((Reg.tlr c).setsReserved cfg d)
  | .wrIntcIer d => !(Reg.ier.setsReserved cfg d)
  | .wrIntcIar d => !(Reg.iar.setsReserved cfg d)
  | .wrIntcMer d => !(Reg.mer.setsReserved cfg d)
  | .rdCoreDuty k => k.val < cfg.nPwm.val
  | .wrCoreDuty k d => k.val < cfg.nPwm.val && !((Reg.duty (k.castLE (by decide))).setsReserved cfg d)
  | .sample i _ => i.val < cfg.nLines.val
  | .tclk c => c.val < cfg.nTch.val
  | .rdGpioInData | .rdGpioInTri | .rdGpioOutData | .rdGpioOutTri => true
  | .rdIntcIsr | .rdIntcIpr | .rdIntcIer | .rdIntcMer => true
  | .rdCoreDbState | .rdCorePhase | .rdCoreBlink => true
  | .strobePwmTick | .strobeBlinkToggle | .setIe _ | .reset => true

end Sys2Proof
end

