-- ==== Sys2Proof/Decode.lean ====
section
/-! DEFINITION. The decoder of 30_encoding R88, total on every word and every issuer, refusing by the reasons of
60_exceptions R203 in the order R88 gives them; and the encoder, from the same register map and field layout. -/

namespace Sys2Proof

/-- What the decoder returns: the operation, or the first reason that applies (30_encoding R88). -/
inductive Decoded where
  | op (i : Instr)
  | refuse (r : RefuseReason)
deriving DecidableEq, Repr

/-- The RD rows of the opcode table, with the direction check and the index check of 30_encoding R88. -/
def readOp (cfg : Config) : Reg → Decoded
  | .gpioInData => .op .rdGpioInData
  | .gpioInTri => .op .rdGpioInTri
  | .gpioOutData => .op .rdGpioOutData
  | .gpioOutTri => .op .rdGpioOutTri
  | .tcsr c => if c.val < cfg.nTch.val then .op (.rdTmrTcsr c) else .refuse .indexRange
  | .tlr c => if c.val < cfg.nTch.val then .op (.rdTmrTlr c) else .refuse .indexRange
  | .tcr c => if c.val < cfg.nTch.val then .op (.rdTmrTcr c) else .refuse .indexRange
  | .isr => .op .rdIntcIsr
  | .ipr => .op .rdIntcIpr
  | .ier => .op .rdIntcIer
  | .iar => .refuse .noSuchRegister
  | .mer => .op .rdIntcMer
  | .dbState => .op .rdCoreDbState
  | .phase => .op .rdCorePhase
  | .blink => .op .rdCoreBlink
  | .duty k =>
    if h : k.val < cfg.nPwm.val then .op (.rdCoreDuty ⟨k.val, by omega⟩) else .refuse .indexRange

/-- The WR rows of the opcode table, with the direction check and the index check of 30_encoding R88. -/
def writeOp (cfg : Config) (d : Word) : Reg → Decoded
  | .gpioInTri => .op (.wrGpioInTri d)
  | .gpioOutData => .op (.wrGpioOutData d)
  | .gpioOutTri => .op (.wrGpioOutTri d)
  | .tcsr c => if c.val < cfg.nTch.val then .op (.wrTmrTcsr c d) else .refuse .indexRange
  | .tlr c => if c.val < cfg.nTch.val then .op (.wrTmrTlr c d) else .refuse .indexRange
  | .ier => .op (.wrIntcIer d)
  | .iar => .op (.wrIntcIar d)
  | .mer => .op (.wrIntcMer d)
  | .duty k =>
    if h : k.val < cfg.nPwm.val then .op (.wrCoreDuty ⟨k.val, by omega⟩ d) else .refuse .indexRange
  | .gpioInData | .tcr _ | .isr | .ipr | .dbState | .phase | .blink => .refuse .noSuchRegister

/-- The RD case of 30_encoding R88. -/
def decodeRd (cfg : Config) (u : BitVec 4) (s : BitVec 8) (d : Word) : Decoded :=
  if 5 ≤ u.toNat then .refuse .reservedUnit
  else match regAt u s with
    | none => .refuse .noSuchRegister
    | some r => match readOp cfg r with
      | .refuse e => .refuse e
      | .op i => if d = 0 then .op i else .refuse .reservedField

/-- The WR case of 30_encoding R88. -/
def decodeWr (cfg : Config) (u : BitVec 4) (s : BitVec 8) (d : Word) : Decoded :=
  if 5 ≤ u.toNat then .refuse .reservedUnit
  else match regAt u s with
    | none => .refuse .noSuchRegister
    | some r => match writeOp cfg d r with
      | .refuse e => .refuse e
      | .op i => if r.setsReserved cfg d then .refuse .reservedDataBits else .op i

/-- The SAMPLE case of 30_encoding R88; operands R83. -/
def decodeSample (cfg : Config) (s : BitVec 8) (d : Word) : Decoded :=
  if h : s.toNat < cfg.nLines.val then
    if d.extractLsb' 1 31 ≠ 0 then .refuse .reservedField
    else .op (.sample ⟨s.toNat, by omega⟩ (d.getLsbD 0))
  else .refuse .indexRange

/-- The TCLK case of 30_encoding R88; operands R84. -/
def decodeTclk (cfg : Config) (s : BitVec 8) (d : Word) : Decoded :=
  if h : s.toNat < cfg.nTch.val then
    if d ≠ 0 then .refuse .reservedField else .op (.tclk ⟨s.toNat, by omega⟩)
  else .refuse .indexRange

/-- The STROBE case of 30_encoding R88; operands R85. -/
def decodeStrobe (s : BitVec 8) (d : Word) : Decoded :=
  if 2 ≤ s.toNat then .refuse .reservedStrobe
  else if d ≠ 0 then .refuse .reservedField
  else if s.toNat = 0 then .op .strobePwmTick else .op .strobeBlinkToggle

/-- The SETIE case of 30_encoding R88; operands R86. -/
def decodeSetIe (s : BitVec 8) (d : Word) : Decoded :=
  if s ≠ 0 ∨ d.extractLsb' 1 31 ≠ 0 then .refuse .reservedField else .op (.setIe (d.getLsbD 0))

/-- The RESET case of 30_encoding R88; operands R87. -/
def decodeReset (s : BitVec 8) (d : Word) : Decoded :=
  if s ≠ 0 ∨ d ≠ 0 then .refuse .reservedField else .op .reset

/-- The case on K of 30_encoding R88. -/
def decodeKind (cfg : Config) (K : Kind) (u : BitVec 4) (s : BitVec 8) (d : Word) : Decoded :=
  match K with
  | .rd => decodeRd cfg u s d
  | .wr => decodeWr cfg u s d
  | .sample => if u ≠ 0 then .refuse .reservedUnit else decodeSample cfg s d
  | .tclk => if u ≠ 0 then .refuse .reservedUnit else decodeTclk cfg s d
  | .strobe => if u ≠ 0 then .refuse .reservedUnit else decodeStrobe s d
  | .setie => if u ≠ 0 then .refuse .reservedUnit else decodeSetIe s d
  | .reset => if u ≠ 0 then .refuse .reservedUnit else decodeReset s d

/-- decode(T, issuer) of 30_encoding R88: the first reason that applies, or the operation. -/
def decode (cfg : Config) (a : Agent) (T : Txn) : Decoded :=
  match Kind.ofCode T.kindField with
  | none => .refuse .reservedKind
  | some K =>
    if T.rsv ≠ 0 then .refuse .reservedField
    else if mayIssue a K then decodeKind cfg K T.unitField T.sel T.data
    else .refuse .wrongIssuer

/-! ### The encoder -/

/-- The word of a RD of a register (30_encoding R82). -/
def encodeRd (r : Reg) : Txn := Txn.ofFields Kind.rd.code r.unit.code r.offset 0

/-- The word of a WR of a register (30_encoding R82). -/
def encodeWr (r : Reg) (d : Word) : Txn := Txn.ofFields Kind.wr.code r.unit.code r.offset d

/-- The word with `UNIT` = 0 of a kind that names no register (30_encoding R83 to R87). -/
def encodeOther (k : Kind) (s : BitVec 8) (d : Word) : Txn := Txn.ofFields k.code 0 s d

/-- A one-bit operand in DATA[0], the rest 0 (30_encoding R83, R86). -/
def bitData (b : Bool) : Word := (BitVec.ofBool b).setWidth 32

/-- The word of an operation (30_encoding R80 to R87, R95). -/
def encode : Instr → Txn
  | .rdGpioInData => encodeRd .gpioInData
  | .rdGpioInTri => encodeRd .gpioInTri
  | .wrGpioInTri d => encodeWr .gpioInTri d
  | .rdGpioOutData => encodeRd .gpioOutData
  | .wrGpioOutData d => encodeWr .gpioOutData d
  | .rdGpioOutTri => encodeRd .gpioOutTri
  | .wrGpioOutTri d => encodeWr .gpioOutTri d
  | .rdTmrTcsr c => encodeRd (.tcsr c)
  | .wrTmrTcsr c d => encodeWr (.tcsr c) d
  | .rdTmrTlr c => encodeRd (.tlr c)
  | .wrTmrTlr c d => encodeWr (.tlr c) d
  | .rdTmrTcr c => encodeRd (.tcr c)
  | .rdIntcIsr => encodeRd .isr
  | .rdIntcIpr => encodeRd .ipr
  | .rdIntcIer => encodeRd .ier
  | .wrIntcIer d => encodeWr .ier d
  | .wrIntcIar d => encodeWr .iar d
  | .rdIntcMer => encodeRd .mer
  | .wrIntcMer d => encodeWr .mer d
  | .rdCoreDbState => encodeRd .dbState
  | .rdCorePhase => encodeRd .phase
  | .rdCoreBlink => encodeRd .blink
  | .rdCoreDuty k => encodeRd (.duty (k.castLE (by decide)))
  | .wrCoreDuty k d => encodeWr (.duty (k.castLE (by decide))) d
  | .sample i raw => encodeOther .sample (BitVec.ofNat 8 i.val) (bitData raw)
  | .tclk c => encodeOther .tclk (BitVec.ofNat 8 c.val) 0
  | .strobePwmTick => encodeOther .strobe 0 0
  | .strobeBlinkToggle => encodeOther .strobe 1 0
  | .setIe v => encodeOther .setie 0 (bitData v)
  | .reset => encodeOther .reset 0 0

/-! ### The opcode table -/

/-- A row of spec/opcode_table.json: its match and its mask. -/
structure TableRow where
  value : Txn
  mask : Txn
deriving DecidableEq, Repr

/-- The word satisfies the row (30_encoding R88, last line). -/
abbrev TableRow.Accepts (r : TableRow) (T : Txn) : Prop := T &&& r.mask = r.value

/-- The row of each operation, copied from spec/opcode_table.json. -/
def tableRow : Instr → TableRow
  | .rdGpioInData => ⟨0x0000000000000000, 0xFFFFFFFFFFFFFFFF⟩
  | .rdGpioInTri => ⟨0x0000000400000000, 0xFFFFFFFFFFFFFFFF⟩
  | .wrGpioInTri _ => ⟨0x1000000400000000, 0xFFFFFFFF00000000⟩
  | .rdGpioOutData => ⟨0x0100000000000000, 0xFFFFFFFFFFFFFFFF⟩
  | .wrGpioOutData _ => ⟨0x1100000000000000, 0xFFFFFFFF00000000⟩
  | .rdGpioOutTri => ⟨0x0100000400000000, 0xFFFFFFFFFFFFFFFF⟩
  | .wrGpioOutTri _ => ⟨0x1100000400000000, 0xFFFFFFFF00000000⟩
  | .rdTmrTcsr _ => ⟨0x0200000000000000, 0xFFFFFFEFFFFFFFFF⟩
  | .wrTmrTcsr _ _ => ⟨0x1200000000000000, 0xFFFFFFEF00000000⟩
  | .rdTmrTlr _ => ⟨0x0200000400000000, 0xFFFFFFEFFFFFFFFF⟩
  | .wrTmrTlr _ _ => ⟨0x1200000400000000, 0xFFFFFFEF00000000⟩
  | .rdTmrTcr _ => ⟨0x0200000800000000, 0xFFFFFFEFFFFFFFFF⟩
  | .rdIntcIsr => ⟨0x0300000000000000, 0xFFFFFFFFFFFFFFFF⟩
  | .rdIntcIpr => ⟨0x0300000400000000, 0xFFFFFFFFFFFFFFFF⟩
  | .rdIntcIer => ⟨0x0300000800000000, 0xFFFFFFFFFFFFFFFF⟩
  | .wrIntcIer _ => ⟨0x1300000800000000, 0xFFFFFFFF00000000⟩
  | .wrIntcIar _ => ⟨0x1300000C00000000, 0xFFFFFFFF00000000⟩
  | .rdIntcMer => ⟨0x0300001C00000000, 0xFFFFFFFFFFFFFFFF⟩
  | .wrIntcMer _ => ⟨0x1300001C00000000, 0xFFFFFFFF00000000⟩
  | .rdCoreDbState => ⟨0x0400000000000000, 0xFFFFFFFFFFFFFFFF⟩
  | .rdCorePhase => ⟨0x0400000400000000, 0xFFFFFFFFFFFFFFFF⟩
  | .rdCoreBlink => ⟨0x0400000800000000, 0xFFFFFFFFFFFFFFFF⟩
  | .rdCoreDuty _ => ⟨0x0400001000000000, 0xFFFFFFF3FFFFFFFF⟩
  | .wrCoreDuty _ _ => ⟨0x1400001000000000, 0xFFFFFFF300000000⟩
  | .sample _ _ => ⟨0x2000000000000000, 0xFFFFFF00FFFFFFFE⟩
  | .tclk _ => ⟨0x3000000000000000, 0xFFFFFF00FFFFFFFF⟩
  | .strobePwmTick => ⟨0x4000000000000000, 0xFFFFFFFFFFFFFFFF⟩
  | .strobeBlinkToggle => ⟨0x4000000100000000, 0xFFFFFFFFFFFFFFFF⟩
  | .setIe _ => ⟨0x5000000000000000, 0xFFFFFFFFFFFFFFFE⟩
  | .reset => ⟨0x6000000000000000, 0xFFFFFFFFFFFFFFFF⟩

/-- An agent that may issue the word's kind: HOST for RD, WR, SAMPLE and SETIE (30_encoding R81). -/
def usualIssuer (T : Txn) : Agent :=
  match Kind.ofCode T.kindField with
  | some .tclk => .timer
  | some .strobe => .seq
  | some .reset => .env
  | _ => .host

/-- The instruction the decoder reads from an instruction of bits `w`, numbered as spec/opcode_table.json numbers them,
under the default configuration and an agent that may issue it (log 22). -/
def decodeTableWord (nbits w : Nat) : Option Instr :=
  if nbits ≤ 64 ∧ w < 2 ^ 64 then
    match decode Config.pDual (usualIssuer (BitVec.ofNat 64 w)) (BitVec.ofNat 64 w) with
    | .op i => some i
    | .refuse _ => none
  else none

end Sys2Proof
end

