-- ==== Sys2Proof/Machine/State.lean ====
section
/-! DEFINITION. The state of the block as plain data: every element of 10_state, the configuration, and the model's own
bookkeeping (which agent moves next, what the last step answered). `State.reset` is the power-on state of
70_reset_and_hazards R241. -/

namespace Sys2Proof.Machine

/-- The debounce state of one line (10_state R42). -/
inductive DbState where
  | idle
  | pressed
deriving DecidableEq, Repr

/-- The stored fields of `TMR.TCSR[c]` (10_state R32). The reserved bits are not stored: they read 0 (R23). -/
structure Tcsr where
  udt : Bool
  arht : Bool
  load : Bool
  enit : Bool
  ent : Bool
  tint : Bool
deriving DecidableEq, Repr

/-- One timer channel: `TCSR[c]`, `TLR[c]`, `TCR[c]` (10_state R32 to R34). -/
structure Timer where
  tcsr : Tcsr
  tlr : Word
  tcr : Word
deriving DecidableEq, Repr

/-- The reset value of `TMR.TCSR[c]` (10_state R51). -/
def Tcsr.zero : Tcsr :=
  { udt := false, arht := false, load := false, enit := false, ent := false, tint := false }

/-- The reset value of a channel (10_state R51). -/
def Timer.zero : Timer := { tcsr := Tcsr.zero, tlr := 0, tcr := 0 }

/-- The position of the handler sequencer (10_state R44). -/
inductive Seq where
  | idle
  | rd (c : Fin 2)
  | ack (c : Fin 2)
  | act (c : Fin 2)
  | iar
  | ret
deriving DecidableEq, Repr

/-- The fault codes of 60_exceptions R202, in the order of their codes 1 to 5. -/
inductive FaultCode where
  | dataBeforeDirection
  | directionRewritten
  | timerStartNotConfigured
  | timerReconfiguredWhileRunning
  | timerLoadWhileRunning
deriving DecidableEq, Repr

/-- A fault record `(code, T, issuer, n)` (60_exceptions R200). DEDUCED (log 6): `n` counts the steps before this one. -/
structure FaultRecord where
  code : FaultCode
  word : Txn
  issuer : Agent
  n : Nat
deriving DecidableEq, Repr

/-- What a step gives back to the agent that took it (00_scope R11; log 5). -/
inductive Resp where
  /-- No response: a WR, a timer event, a strobe, a sequencer step without a transaction. -/
  | silent
  /-- `respond(v)`: the value a RD reads or the trigger bit of a SAMPLE. -/
  | value (v : Word)
  /-- `raise Fault(code, T)`. -/
  | faulted (code : FaultCode)
  /-- `refuse(reason)`. -/
  | refused (reason : RefuseReason)
deriving DecidableEq, Repr

/-- One entry of the schedule: which agent moves, and the word it issues (20_memory R60; log 1). -/
inductive Input where
  | host (T : Txn)
  | timer (T : Txn)
  | env (T : Txn)
  /-- The sequencer's entry or next step; its word, if any, comes from its fixed program (60_exceptions R210). -/
  | handler
deriving DecidableEq, Repr

/-- Why a step stops. -/
inductive Fault where
  /-- Raised by `step` in a faulted state (FAULTS not empty): the state is quiescent and no agent has an enabled step,
  RESET included (60_exceptions R200). Safe: the spec gives no next state there. -/
  | quiescent
deriving DecidableEq, Repr

/-- Why an instruction has no meaning. -/
inductive Refusal where
  /-- Raised by an arm of `exec` whose instruction has no meaning yet. No arm of this model does. Safe. -/
  | notModelled (mnemonic : String)
deriving DecidableEq, Repr

/-- The state of the block (10_state R25 to R52), its configuration and the model's own bookkeeping. Vectors have the
largest size a configuration allows; an entry at or above the configured count keeps its reset value (log 18). -/
structure State where
  /-- The parameters of 00_scope R7; no step writes them. -/
  cfg : Config
  /-- `GPIO_IN.TRI` (R26). -/
  gpioInTri : Word
  /-- `TRI_WRITTEN_IN` (R27). -/
  triWrittenIn : Bool
  /-- `GPIO_OUT.DATA` (R28). -/
  gpioOutData : Word
  /-- `GPIO_OUT.TRI` (R29). -/
  gpioOutTri : Word
  /-- `TRI_WRITTEN_OUT` (R30). -/
  triWrittenOut : Bool
  /-- `TMR.TCSR[c]`, `TMR.TLR[c]`, `TMR.TCR[c]` (R32 to R34). -/
  timers : Vector Timer 2
  /-- `INTC.ISR[0]` (R36). -/
  isr : Bool
  /-- `INTC.IER[0]` (R38). -/
  ier : Bool
  /-- `INTC.MER.ME` (R40). -/
  me : Bool
  /-- `INTC.MER.HIE` (R40). -/
  hie : Bool
  /-- `DB[i]` (R42). -/
  db : Vector DbState 32
  /-- `CORE.PHASE` (R43). -/
  phase : Byte
  /-- `CORE.BLINK` (R43). -/
  blink : Bool
  /-- `CORE.DUTY[k]` (R43). -/
  duty : Vector Byte 3
  /-- `SEQ` (R44). -/
  seq : Seq
  /-- `V` (R45). -/
  v : Word
  /-- `HOST_IE` (R46). -/
  hostIE : Bool
  /-- `FAULTS` (R47), oldest first. -/
  faults : List FaultRecord
  /-- `REFUSED` (R47). -/
  refused : Bool
  /-- `EXPIRED[c]` (R52). -/
  expired : Vector Nat 2
  /-- `MERGED[c]` (R52). -/
  merged : Vector Nat 2
  /-- The number of steps since power-on (60_exceptions R200; log 6). -/
  steps : Nat
  /-- Model's own (log 15): the agent of the current or last step, which a fault record names. -/
  issuer : Agent
  /-- Model's own (log 5): what the last step gave back to its issuer. -/
  resp : Resp
  /-- Model's own (log 7): the pin draws taken so far. -/
  draws : Nat
  /-- Model's own (log 1): the moves the agents are about to make, next first. -/
  inputs : List Input
deriving DecidableEq, Repr

/-- The power-on state under a configuration: the reset values of 10_state R51, and the bookkeeping empty (R241). -/
def State.powerOn (cfg : Config) : State :=
  { cfg := cfg
    gpioInTri := BitVec.ofNat 32 (2 ^ cfg.nLines.val - 1)
    triWrittenIn := false
    gpioOutData := cfg.outReset.setWidth 32 &&& BitVec.ofNat 32 (2 ^ cfg.nPwm.val - 1)
    gpioOutTri := BitVec.ofNat 32 (2 ^ cfg.nPwm.val - 1)
    triWrittenOut := false
    timers := Vector.replicate 2 Timer.zero
    isr := false
    ier := false
    me := false
    hie := false
    db := Vector.replicate 32 .idle
    phase := 0
    blink := false
    duty := Vector.replicate 3 0
    seq := .idle
    v := 0
    hostIE := false
    faults := []
    refused := false
    expired := Vector.replicate 2 0
    merged := Vector.replicate 2 0
    steps := 0
    issuer := .host
    resp := .silent
    draws := 0
    inputs := [] }

/-- The machine right after reset: power-on in the default configuration (70_reset_and_hazards R241, 00_scope R7). -/
def State.reset : State := State.powerOn Config.pDual

end Sys2Proof.Machine
end

