-- ==== Sys2Proof/Machine/Flags.lean ====
section
/-! DEFINITION. The derived signals and the status words: TCSR as a word (41_timer R121), the timer life cycle
(10_state R35), `tmr_irq` and `IRQ` (R41), the other register words, the output pins (R31, 43_pwm R183), and the PWM comparison
(43_pwm R170). -/

namespace Sys2Proof.Machine

/-- The code of a fault (60_exceptions R202). -/
def FaultCode.number : FaultCode → Nat
  | .dataBeforeDirection => 1
  | .directionRewritten => 2
  | .timerStartNotConfigured => 3
  | .timerReconfiguredWhileRunning => 4
  | .timerLoadWhileRunning => 5

/-- A one-bit field in bit 0, the rest 0: `zext_32` of a flag (00_scope R9). -/
def flagWord (b : Bool) : Word := (BitVec.ofBool b).setWidth 32

/-- RD TCSR: the stored fields at the bit positions of 10_state R32 (41_timer R121). -/
def Tcsr.toWord (t : Tcsr) : Word :=
  flagWord t.tint <<< 8 ||| flagWord t.ent <<< 7 ||| flagWord t.enit <<< 6 ||| flagWord t.load <<< 5
    ||| flagWord t.arht <<< 4 ||| flagWord t.udt <<< 1

/-- The fields a WR TCSR stores; TINT is written 1 to clear and is never set (41_timer R122). -/
def Tcsr.write (t : Tcsr) (d : Word) : Tcsr :=
  { udt := d.getLsbD 1
    arht := d.getLsbD 4
    load := d.getLsbD 5
    enit := d.getLsbD 6
    ent := d.getLsbD 7
    tint := t.tint && !d.getLsbD 8 }

/-- The life cycle of a channel, derived from TCSR (10_state R35). -/
inductive TState where
  | disabled
  | configured
  | running
deriving DecidableEq, Repr

/-- `TSTATE` of a TCSR value (10_state R35). -/
def Tcsr.tstate (t : Tcsr) : TState :=
  if t.ent then .running
  else if t.udt && t.arht && t.enit then .configured
  else .disabled

/-- `TSTATE[c]` (10_state R35). -/
def State.tstate (s : State) (c : Fin 2) : TState := s.timers[c].tcsr.tstate

/-- Channel c exists and drives the shared line: `TINT and ENIT` (10_state R41). -/
def State.channelIrq (s : State) (c : Fin 2) : Bool :=
  decide (c.val < s.cfg.nTch.val) && s.timers[c].tcsr.tint && s.timers[c].tcsr.enit

/-- `tmr_irq`, the OR over c < N_TCH (10_state R41). -/
def State.tmrIrq (s : State) : Bool := s.channelIrq 0 || s.channelIrq 1

/-- `IPR[0] = ISR[0] and IER[0]` (10_state R37). -/
def State.ipr (s : State) : Bool := s.isr && s.ier

/-- `IRQ`, the controller's output to the host (10_state R41). -/
def State.irq (s : State) : Bool := s.me && s.ipr

/-- RD MER: `(HIE << 1) | ME` (42_interrupt_ack R157). -/
def State.merWord (s : State) : Word := flagWord s.hie <<< 1 ||| flagWord s.me

/-- RD DB_STATE: bit i is DB[i] for i < N_LINES, Pressed = 1 (40_debounce R104). -/
def State.dbWord (s : State) : Word :=
  bitsWord (s.db.toList.map (· == .pressed)) &&& lowMask s.cfg.nLines.val

/-- What an output pin shows (10_state R31). -/
inductive Pin where
  | driven (level : Bool)
  | z
deriving DecidableEq, Repr

/-- `PWM_PIN[k]` for k < N_PWM: the latch bit where the direction bit is 0, else not driven (10_state R31). The block has
N_PWM output pins (43_pwm R183), so there is no pin at or above N_PWM. -/
def State.pwmPin (s : State) (k : Fin 3) : Option Pin :=
  if k.val < s.cfg.nPwm.val then
    some (if s.gpioOutTri.getLsbD k.val then .z else .driven (s.gpioOutData.getLsbD k.val))
  else none

/-- The output bit of one channel: 0 (active) when the phase is below the duty (43_pwm R170). -/
def pwmBit (phase duty : Byte) : Bool := !decide (phase < duty)

/-- The packed output bits of channels k < N_PWM (43_pwm R170). -/
def pwmWord (cfg : Config) (phase : Byte) (duty : Vector Byte 3) : Word :=
  bitsWord (duty.toList.map (pwmBit phase)) &&& lowMask cfg.nPwm.val

end Sys2Proof.Machine
end

