-- ==== Sys2Proof/Machine/Ops.lean ====
section
/-! DEFINITION. The named operations the meanings share: responding, refusing (60_exceptions R201), raising a fault
(R200), writing a channel, the post-step latch (42_interrupt_ack R150), handler entry (R211) and return (R216), and
block reset (70_reset_and_hazards R240). -/

namespace Sys2Proof.Machine

/-- The answer of a meaning and of a step. -/
abbrev Result := Host.Outcome State Fault Refusal

/-- `respond(v)` (00_scope R11). -/
def State.respond (s : State) (v : Word) : State := { s with resp := .value v }

/-- The end of an operation that responds nothing. -/
def State.complete (s : State) : State := { s with resp := .silent }

/-- `refuse(reason)`: `REFUSED <- 1` and no other change (60_exceptions R201). -/
def State.refuse (s : State) (r : RefuseReason) : State := { s with refused := true, resp := .refused r }

/-- `raise Fault(code, T)`: the record is appended and nothing else changes (60_exceptions R200). -/
def State.raiseFault (s : State) (code : FaultCode) (i : Instr) : State :=
  { s with
    faults := s.faults ++ [{ code := code, word := encode i, issuer := s.issuer, n := s.steps }]
    resp := .faulted code }

/-- The state is faulted (60_exceptions R200). -/
def State.faulted (s : State) : Bool := !s.faults.isEmpty

/-- The state with channel c replaced; no other channel changes (41_timer R127). -/
def State.setTimer (s : State) (c : Fin 2) (t : Timer) : State := { s with timers := s.timers.set c t }

/-- One expiry of channel c: EXPIRED and MERGED count it, TINT is set, the counter reloads (41_timer R126). -/
def State.expire (s : State) (c : Fin 2) : State :=
  { s with
    timers := s.timers.set c
      { tcsr := { s.timers[c].tcsr with tint := true }, tlr := s.timers[c].tlr, tcr := s.timers[c].tlr }
    expired := s.expired.set c (s.expired[c] + 1)
    merged := s.merged.set c (if s.timers[c].tcsr.tint then s.merged[c] + 1 else s.merged[c]) }

/-- The post-step latch (42_interrupt_ack R150). -/
def State.latch (s : State) : State := { s with isr := s.isr || (s.hie && s.tmrIrq) }

/-- The end of every step of every agent, a refused or faulting one included: the latch, and the step is counted
(20_memory R60, 42_interrupt_ack R150, 60_exceptions R200). -/
def State.endStep (s : State) : State := { s.latch with steps := s.steps + 1 }

/-- A draw of the input pins' levels: the free value, and the state that has used it up (40_debounce R105; log 7). -/
def State.pinDraw (s : State) : Word := Config.pinDraw s.draws &&& lowMask s.cfg.nLines.val

/-- The state after one pin draw. -/
def State.nextDraw (s : State) : State := { s with draws := s.draws + 1 }

/-! ### Interrupt entry and return -/

/-- The condition of the sequencer's entry (60_exceptions R211). -/
def State.entryEnabled (s : State) : Bool := decide (s.seq = .idle) && s.irq && s.hostIE

/-- Taking the interrupt: `seq <- RD(0)`, nothing saved, nothing masked (60_exceptions R211). -/
def State.enterHandler (s : State) : State := { s with seq := .rd 0, resp := .silent }

/-- Returning from the handler: `seq <- IDLE`, nothing restored (60_exceptions R216). -/
def State.returnFromHandler (s : State) : State := { s with seq := .idle, resp := .silent }

/-! ### Block reset -/

/-- The effect of RESET (70_reset_and_hazards R240). FAULTS, REFUSED, EXPIRED and MERGED are kept, and so are the
configuration and the model's own bookkeeping (log 23). -/
def State.blockReset (s : State) : State :=
  { s with
    seq := .idle
    v := 0
    hostIE := false
    triWrittenIn := false
    triWrittenOut := false
    timers := Vector.replicate 2 Timer.zero
    isr := false
    ier := false
    me := false
    hie := false
    db := Vector.replicate 32 .idle
    phase := 0
    blink := false
    duty := Vector.replicate 3 0
    gpioInTri := lowMask s.cfg.nLines.val
    gpioOutTri := lowMask s.cfg.nPwm.val
    gpioOutData := s.cfg.outReset.setWidth 32 &&& lowMask s.cfg.nPwm.val }

end Sys2Proof.Machine
end

