-- ==== Sys2Proof/Machine/BlockReset.lean ====
section
/-! DEFINITION. RESET (70_reset_and_hazards R240). -/

namespace Sys2Proof.Machine

/-- RESET (70_reset_and_hazards R240). -/
def execReset (s : State) : Result := .next s.blockReset.complete

end Sys2Proof.Machine
end

