-- ==== Sys2Proof/Machine/Debounce.lean ====
section
/-! DEFINITION. The debounce state machine and the input port (40_debounce R100 to R110): SAMPLE, RD CORE.DB_STATE,
RD GPIO_IN.DATA, WR and RD GPIO_IN.TRI. -/

namespace Sys2Proof.Machine

/-- The debounce state after a sample: Pressed when the level is 1, else Idle (40_debounce R100). -/
def DbState.observe (raw : Bool) : DbState := if raw then .pressed else .idle

/-- The trigger bit: 1 only for a sampled release, (Pressed, 0) (40_debounce R100). -/
def DbState.trigger (st : DbState) (raw : Bool) : Bool := st == .pressed && !raw

/-- SAMPLE i, raw (40_debounce R100). -/
def execSample (i : Fin 32) (raw : Bool) (s : State) : Result :=
  if s.triWrittenIn then
    .next ({ s with db := s.db.set i (DbState.observe raw) }.respond (flagWord (s.db[i].trigger raw)))
  else .next (s.raiseFault .dataBeforeDirection (.sample i raw))

/-- RD CORE.DB_STATE (40_debounce R104). -/
def execRdCoreDbState (s : State) : Result := .next (s.respond s.dbWord)

/-- RD GPIO_IN.DATA: a draw of the pins' levels (40_debounce R105). -/
def execRdGpioInData (s : State) : Result :=
  if s.triWrittenIn then .next (s.nextDraw.respond s.pinDraw)
  else .next (s.raiseFault .dataBeforeDirection .rdGpioInData)

/-- WR GPIO_IN.TRI, once since reset (40_debounce R106). -/
def execWrGpioInTri (d : Word) (s : State) : Result :=
  if s.triWrittenIn then .next (s.raiseFault .directionRewritten (.wrGpioInTri d))
  else .next { s with gpioInTri := d &&& lowMask s.cfg.nLines.val, triWrittenIn := true }.complete

/-- RD GPIO_IN.TRI (40_debounce R107). -/
def execRdGpioInTri (s : State) : Result :=
  .next (s.respond (s.gpioInTri &&& lowMask s.cfg.nLines.val))

end Sys2Proof.Machine
end

