-- ==== Sys2Proof/Machine/Intc.lean ====
section
/-! DEFINITION. The interrupt controller's registers, the host's interrupt enable and the blink flag
(42_interrupt_ack R152 to R161). The latch of R150 is applied by the step (`State.endStep`). -/

namespace Sys2Proof.Machine

/-- RD INTC.ISR (42_interrupt_ack R152). -/
def execRdIntcIsr (s : State) : Result := .next (s.respond (flagWord s.isr))

/-- RD INTC.IPR (42_interrupt_ack R153). -/
def execRdIntcIpr (s : State) : Result := .next (s.respond (flagWord s.ipr))

/-- RD INTC.IER (42_interrupt_ack R154). -/
def execRdIntcIer (s : State) : Result := .next (s.respond (flagWord s.ier))

/-- WR INTC.IER (42_interrupt_ack R155). -/
def execWrIntcIer (d : Word) (s : State) : Result := .next { s with ier := d.getLsbD 0 }.complete

/-- WR INTC.IAR, the controller-level acknowledge (42_interrupt_ack R156). -/
def execWrIntcIar (d : Word) (s : State) : Result := .next { s with isr := s.isr && !d.getLsbD 0 }.complete

/-- RD INTC.MER (42_interrupt_ack R157). -/
def execRdIntcMer (s : State) : Result := .next (s.respond s.merWord)

/-- WR INTC.MER; HIE is set-once (42_interrupt_ack R158). -/
def execWrIntcMer (d : Word) (s : State) : Result :=
  .next { s with me := d.getLsbD 0, hie := s.hie || d.getLsbD 1 }.complete

/-- SETIE v (42_interrupt_ack R159). -/
def execSetIe (v : Bool) (s : State) : Result := .next { s with hostIE := v }.complete

/-- STROBE BLINK_TOGGLE (42_interrupt_ack R160). -/
def execStrobeBlinkToggle (s : State) : Result := .next { s with blink := !s.blink }.complete

/-- RD CORE.BLINK (42_interrupt_ack R161). -/
def execRdCoreBlink (s : State) : Result := .next (s.respond (flagWord s.blink))

end Sys2Proof.Machine
end

