-- ==== Sys2Proof/Machine/Pwm.lean ====
section
/-! DEFINITION. The PWM duty generator and the output port (43_pwm R170 to R183). -/

namespace Sys2Proof.Machine

/-- STROBE PWM_TICK: the phase is incremented first and the comparison uses the new phase (43_pwm R170). -/
def execStrobePwmTick (s : State) : Result :=
  if s.triWrittenOut then
    .next { s with phase := s.phase + 1, gpioOutData := pwmWord s.cfg (s.phase + 1) s.duty }.complete
  else .next (s.raiseFault .dataBeforeDirection .strobePwmTick)

/-- WR CORE.DUTY[k] (43_pwm R171). -/
def execWrCoreDuty (k : Fin 3) (d : Word) (s : State) : Result :=
  .next { s with duty := s.duty.set k (d.extractLsb' 0 8) }.complete

/-- RD CORE.DUTY[k] (43_pwm R172). -/
def execRdCoreDuty (k : Fin 3) (s : State) : Result := .next (s.respond (s.duty[k].setWidth 32))

/-- RD CORE.PHASE (43_pwm R173). -/
def execRdCorePhase (s : State) : Result := .next (s.respond (s.phase.setWidth 32))

/-- RD GPIO_OUT.DATA: the latch, not the pins (43_pwm R174). -/
def execRdGpioOutData (s : State) : Result :=
  if s.triWrittenOut then .next (s.respond (s.gpioOutData &&& lowMask s.cfg.nPwm.val))
  else .next (s.raiseFault .dataBeforeDirection .rdGpioOutData)

/-- WR GPIO_OUT.DATA (43_pwm R175). -/
def execWrGpioOutData (d : Word) (s : State) : Result :=
  if s.triWrittenOut then .next { s with gpioOutData := d &&& lowMask s.cfg.nPwm.val }.complete
  else .next (s.raiseFault .dataBeforeDirection (.wrGpioOutData d))

/-- RD GPIO_OUT.TRI (43_pwm R176). -/
def execRdGpioOutTri (s : State) : Result :=
  .next (s.respond (s.gpioOutTri &&& lowMask s.cfg.nPwm.val))

/-- WR GPIO_OUT.TRI, once since reset (43_pwm R177). -/
def execWrGpioOutTri (d : Word) (s : State) : Result :=
  if s.triWrittenOut then .next (s.raiseFault .directionRewritten (.wrGpioOutTri d))
  else .next { s with gpioOutTri := d &&& lowMask s.cfg.nPwm.val, triWrittenOut := true }.complete

end Sys2Proof.Machine
end

