-- ==== Sys2Proof/Machine/TimerChannels.lean ====
section
/-! DEFINITION. The timer countdown channels (41_timer R120 to R131): TCSR, TLR, TCR and the timer event TCLK. -/

namespace Sys2Proof.Machine

/-- `D[7:0] = 0xD2`: UDT, ARHT, ENIT, ENT, and LOAD released (41_timer R120, R122). -/
def isStartValue (d : Word) : Bool := d.extractLsb' 0 8 == 0xD2

/-- The effect of an accepted WR TCSR on its channel (41_timer R122): the fields, the write-1-to-clear of TINT, and
the load of the counter when D[5] = 1. -/
def Timer.writeTcsr (t : Timer) (d : Word) : Timer :=
  { tcsr := t.tcsr.write d, tlr := t.tlr, tcr := if d.getLsbD 5 then t.tlr else t.tcr }

/-- The effect of an accepted WR TLR on its channel: while LOAD = 1 the counter follows (41_timer R124). -/
def Timer.writeTlr (t : Timer) (d : Word) : Timer :=
  { t with tlr := d, tcr := if t.tcsr.load then d else t.tcr }

/-- An accepted WR TCSR: channel c changes, nothing else does (41_timer R122, R127). -/
def State.writeTcsr (s : State) (c : Fin 2) (d : Word) : State :=
  (s.setTimer c (s.timers[c].writeTcsr d)).complete

/-- RD TMR.TCSR[c] (41_timer R121). -/
def execRdTmrTcsr (c : Fin 2) (s : State) : Result := .next (s.respond s.timers[c].tcsr.toWord)

/-- WR TMR.TCSR[c] (41_timer R122), its checks in the order of 60_exceptions R204. -/
def execWrTmrTcsr (c : Fin 2) (d : Word) (s : State) : Result :=
  if s.tstate c = .running then
    if isStartValue d then .next (s.writeTcsr c d)
    else .next (s.raiseFault .timerReconfiguredWhileRunning (.wrTmrTcsr c d))
  else if d.getLsbD 7 then
    if !isStartValue d then .next (s.refuse .unsupportedTimerMode)
    else if s.tstate c = .configured then .next (s.writeTcsr c d)
    else .next (s.raiseFault .timerStartNotConfigured (.wrTmrTcsr c d))
  else .next (s.writeTcsr c d)

/-- RD TMR.TLR[c] (41_timer R123). -/
def execRdTmrTlr (c : Fin 2) (s : State) : Result := .next (s.respond s.timers[c].tlr)

/-- WR TMR.TLR[c] (41_timer R124). -/
def execWrTmrTlr (c : Fin 2) (d : Word) (s : State) : Result :=
  if s.tstate c = .running then .next (s.raiseFault .timerLoadWhileRunning (.wrTmrTlr c d))
  else .next (s.setTimer c (s.timers[c].writeTlr d)).complete

/-- RD TMR.TCR[c] (41_timer R125). -/
def execRdTmrTcr (c : Fin 2) (s : State) : Result := .next (s.respond s.timers[c].tcr)

/-- TCLK c: one timer event of channel c (41_timer R126). -/
def execTclk (c : Fin 2) (s : State) : Result :=
  if s.tstate c = .running then
    if s.timers[c].tcr = 0 then .next (s.expire c).complete
    else .next (s.setTimer c { s.timers[c] with tcr := s.timers[c].tcr - 1 }).complete
  else .next s.complete

end Sys2Proof.Machine
end

