-- ==== Sys2Proof/Machine/Dispatch.lean ====
section
/-! DEFINITION. The meaning of every operation of spec/opcode_table.json, one arm per constructor. -/

namespace Sys2Proof.Machine

def exec (i : Instr) (s : State) : Host.Outcome State Fault Refusal :=
  match i with
  | .rdGpioInData => Sys2Proof.Machine.execRdGpioInData s
  | .rdGpioInTri => Sys2Proof.Machine.execRdGpioInTri s
  | .wrGpioInTri d => Sys2Proof.Machine.execWrGpioInTri d s
  | .rdGpioOutData => Sys2Proof.Machine.execRdGpioOutData s
  | .wrGpioOutData d => Sys2Proof.Machine.execWrGpioOutData d s
  | .rdGpioOutTri => Sys2Proof.Machine.execRdGpioOutTri s
  | .wrGpioOutTri d => Sys2Proof.Machine.execWrGpioOutTri d s
  | .rdTmrTcsr c => Sys2Proof.Machine.execRdTmrTcsr c s
  | .wrTmrTcsr c d => Sys2Proof.Machine.execWrTmrTcsr c d s
  | .rdTmrTlr c => Sys2Proof.Machine.execRdTmrTlr c s
  | .wrTmrTlr c d => Sys2Proof.Machine.execWrTmrTlr c d s
  | .rdTmrTcr c => Sys2Proof.Machine.execRdTmrTcr c s
  | .rdIntcIsr => Sys2Proof.Machine.execRdIntcIsr s
  | .rdIntcIpr => Sys2Proof.Machine.execRdIntcIpr s
  | .rdIntcIer => Sys2Proof.Machine.execRdIntcIer s
  | .wrIntcIer d => Sys2Proof.Machine.execWrIntcIer d s
  | .wrIntcIar d => Sys2Proof.Machine.execWrIntcIar d s
  | .rdIntcMer => Sys2Proof.Machine.execRdIntcMer s
  | .wrIntcMer d => Sys2Proof.Machine.execWrIntcMer d s
  | .rdCoreDbState => Sys2Proof.Machine.execRdCoreDbState s
  | .rdCorePhase => Sys2Proof.Machine.execRdCorePhase s
  | .rdCoreBlink => Sys2Proof.Machine.execRdCoreBlink s
  | .rdCoreDuty k => Sys2Proof.Machine.execRdCoreDuty k s
  | .wrCoreDuty k d => Sys2Proof.Machine.execWrCoreDuty k d s
  | .sample n raw => Sys2Proof.Machine.execSample n raw s
  | .tclk c => Sys2Proof.Machine.execTclk c s
  | .strobePwmTick => Sys2Proof.Machine.execStrobePwmTick s
  | .strobeBlinkToggle => Sys2Proof.Machine.execStrobeBlinkToggle s
  | .setIe v => Sys2Proof.Machine.execSetIe v s
  | .reset => Sys2Proof.Machine.execReset s

end Sys2Proof.Machine
end

