-- ==== Sys2Proof/Machine/Agents.lean ====
section
/-! DEFINITION. The agents (20_memory R60 to R63): one transaction of an agent, the handler sequencer
(60_exceptions R210 to R221), and which agent moves next. -/

namespace Sys2Proof.Machine

/-- One transaction: the word is decoded for its issuer and executed, or refused (30_encoding R88, 60_exceptions R204). -/
def transaction (a : Agent) (T : Txn) (s : State) : Result :=
  match decode s.cfg a T with
  | .op i => exec i { s with issuer := a }
  | .refuse r => .next ({ s with issuer := a }.refuse r)

/-! ### The handler sequencer -/

/-- `next(c)`: `RD(c+1)` if c + 1 < N_TCH, else `IAR` (60_exceptions R210). -/
def Seq.afterChannel (cfg : Config) (c : Fin 2) : Seq :=
  if h : c.val + 1 < cfg.nTch.val then .rd ⟨c.val + 1, by omega⟩ else .iar

/-- The sequencer's own part of a step, done when its transaction neither faulted nor was refused: a faulted or refused step
makes no other state change, so SEQ stays (60_exceptions R200, R201, R214; log 24). -/
def thenSeq (r : Result) (f : State → State) : Result :=
  match r with
  | .next s =>
    match s.resp with
    | .faulted _ | .refused _ => .next s
    | .silent | .value _ => .next (f s)
  | r => r

/-- The value a RD responded (00_scope R11); 0 where there is none. -/
def Resp.word : Resp → Word
  | .value v => v
  | _ => 0

/-- RD(c): the response goes into V and decides between ACK(c) and next(c) (60_exceptions R212). -/
def State.latchStatus (s : State) (c : Fin 2) : State :=
  { s with v := s.resp.word, seq := if s.resp.word.getLsbD 8 then .ack c else .afterChannel s.cfg c }

/-- The strobe of a channel's action; none for `NONE` (60_exceptions R214). -/
def actionStrobe : ChAction → Option Instr
  | .pwmTick => some .strobePwmTick
  | .blinkToggle => some .strobeBlinkToggle
  | .none => none

/-- ACT(c) (60_exceptions R214). -/
def actStep (c : Fin 2) (s : State) : Result :=
  match actionStrobe s.cfg.chAction[c] with
  | some i =>
    thenSeq (transaction .seq (encode i) s) fun t => { t with seq := .afterChannel t.cfg c }
  | none => .next { s with seq := .afterChannel s.cfg c, issuer := .seq }.complete

/-- One sequencer step: the row of the table of 60_exceptions R210 for the current position. -/
def handlerStep (s : State) : Result :=
  match s.seq with
  | .idle => .next { s with issuer := .seq }.enterHandler
  | .rd c => thenSeq (transaction .seq (encode (.rdTmrTcsr c)) s) fun t => t.latchStatus c
  | .ack c => thenSeq (transaction .seq (encode (.wrTmrTcsr c s.v)) s) fun t => { t with seq := .act c }
  | .act c => actStep c s
  | .iar => thenSeq (transaction .seq (encode (.wrIntcIar 1)) s) fun t => { t with seq := .ret }
  | .ret => .next { s with issuer := .seq }.returnFromHandler

/-! ### Which agent moves next -/

/-- The sequencer has an enabled step: entry (60_exceptions R211), or any position but IDLE (R219). -/
def State.handlerEnabled (s : State) : Bool := decide (s.seq ≠ .idle) || s.entryEnabled

/-- The move when `inputs` names none: free among the enabled ones (20_memory R60 to R63; log 1, log 2). TIMER issues a
timer event of an existing channel, ENV a RESET, HOST any word. -/
def State.freeInput (s : State) : Input :=
  match Config.freeAgent s.steps with
  | .host => if s.seq = .idle then .host (Config.freeWord s.steps) else .handler
  | .seq => if s.handlerEnabled then .handler else .host (Config.freeWord s.steps)
  | .timer =>
    .timer (encode (.tclk (if (Config.freeChannel s.steps).val < s.cfg.nTch.val then Config.freeChannel s.steps else 0)))
  | .env => .env (encode .reset)

/-- The next move and what remains of the schedule. A HOST word waits while the handler runs (20_memory R61), and the handler
then steps; a handler turn that is not enabled is passed over (log 2). -/
def State.pickInput (s : State) : List Input → Input × List Input
  | [] => (s.freeInput, [])
  | .host T :: rest => if s.seq = .idle then (.host T, rest) else (.handler, .host T :: rest)
  | .handler :: rest => if s.handlerEnabled then (.handler, rest) else s.pickInput rest
  | .timer T :: rest => (.timer T, rest)
  | .env T :: rest => (.env T, rest)

/-- The step of the agent a move names (20_memory R60). -/
def perform : Input → State → Result
  | .host T, s => transaction .host T s
  | .timer T, s => transaction .timer T s
  | .env T, s => transaction .env T s
  | .handler, s => handlerStep s

/-- The state in which the next move is taken: the schedule without it. -/
def State.popInput (s : State) : State := { s with inputs := (s.pickInput s.inputs).2 }

/-- The next move. -/
def State.nextInput (s : State) : Input := (s.pickInput s.inputs).1

/-- After every step the controller latches its input and the step is counted (42_interrupt_ack R150). -/
def endResult : Result → Result
  | .next s => .next s.endStep
  | r => r

/-- One step of the machine (20_memory R60). A faulted state is quiescent (60_exceptions R200). -/
def agentStep (s : State) : Result :=
  if s.faulted then .fault .quiescent else endResult (perform s.nextInput s.popInput)

/-! ### Placing one word for the next step -/

/-- A channel whose service action is `a`, the lowest first (00_scope R7). -/
def channelOf (cfg : Config) (a : ChAction) : Option (Fin 2) :=
  if cfg.chAction[0] = a then some 0
  else if cfg.chAction[1] = a ∧ 1 < cfg.nTch.val then some 1
  else none

/-- The sequencer placed at ACT(c) of a channel with action `a`; where the configuration has none, channel 0 gets it. -/
def State.placeAction (s : State) (a : ChAction) : State :=
  match channelOf s.cfg a with
  | some c => { s with seq := .act c, inputs := .handler :: s.inputs }
  | none =>
    { s with cfg := { s.cfg with chAction := s.cfg.chAction.set 0 a }, seq := .act 0, inputs := .handler :: s.inputs }

/-- The state whose very next step is the word T of an agent that may issue it (log 16). A HOST word needs SEQ = IDLE; a strobe
comes only from the sequencer's ACT step; a strobe word the sequencer never issues is given to HOST, where it is refused. -/
def State.placeWord (s : State) (T : Txn) : State :=
  match usualIssuer T with
  | .timer => { s with inputs := .timer T :: s.inputs }
  | .env => { s with inputs := .env T :: s.inputs }
  | .host => { s with seq := .idle, inputs := .host T :: s.inputs }
  | .seq =>
    if T = encode .strobePwmTick then s.placeAction .pwmTick
    else if T = encode .strobeBlinkToggle then s.placeAction .blinkToggle
    else { s with seq := .idle, inputs := .host T :: s.inputs }

end Sys2Proof.Machine
end

