-- ==== Sys2Proof/Machine/Step.lean ====
section
/-! DEFINITION. The step of the machine, and the state whose next step runs a given word. -/

namespace Sys2Proof.Machine

/-- One step: one transaction or one sequencer step, then the post-step latch (20_memory R60). -/
def step (s : State) : Host.Outcome State Fault Refusal := agentStep s

/-- `s` with the transaction word `w` placed so that the next step is that transaction (log 16). The word is one 64-bit unit, so
its bits are numbered as spec/opcode_table.json numbers them; bits above `nbits` are 0. -/
def State.withFetchWord (s : State) (nbits w : Nat) : State :=
  s.placeWord (BitVec.ofNat 64 (w % 2 ^ nbits))

end Sys2Proof.Machine
end

