-- ==== Sys2Proof/Machine/Assembler.lean ====
section
/-! DEFINITION. The textual form of a transaction (30_encoding R92), the pseudo-instructions (R93) and the boot sequence
(70_reset_and_hazards R242). None of it has state: text names words, and a pseudo-instruction names a list of
operations the host issues in order. -/

namespace Sys2Proof.Machine

/-! ### Pseudo-instructions -/

/-- The pseudo-instructions of 30_encoding R93. `tmrAck` carries the value v its RD returned. DESIGN CHOICE (log 25): a
pseudo-instruction is a term that expands to operations, and no line of assembler text. -/
inductive Pseudo where
  | tmrConfig (c : Fin 2) (l : Word)
  | tmrStart (c : Fin 2)
  | tmrAck (c : Fin 2) (v : Word)
  | intcStart
  | intcAck
  | setDuty (k : Fin 3) (d : Word)
  | setRgb (r g b : Word)
  | dirsIn (m : Word)
  | dirsOut (m : Word)
deriving DecidableEq, Repr

/-- The expansion of a pseudo-instruction (30_encoding R93). -/
def Pseudo.expand : Pseudo → List Instr
  | .tmrConfig c l => [.wrTmrTlr c l, .wrTmrTcsr c 0x72]
  | .tmrStart c => [.wrTmrTcsr c 0xD2]
  | .tmrAck c v => [.rdTmrTcsr c, .wrTmrTcsr c v]
  | .intcStart => [.wrIntcIer 0x1, .wrIntcMer 0x3]
  | .intcAck => [.wrIntcIar 0x1]
  | .setDuty k d => [.wrCoreDuty k d]
  | .setRgb r g b => [.wrCoreDuty 0 r, .wrCoreDuty 1 g, .wrCoreDuty 2 b]
  | .dirsIn m => [.wrGpioInTri m]
  | .dirsOut m => [.wrGpioOutTri m]

/-- The channels of a configuration, ascending. -/
def channels (cfg : Config) : List (Fin 2) := [0, 1].filter fun c => c.val < cfg.nTch.val

/-- The boot sequence, with load value `load[c]` for channel c and its optional step 3 (70_reset_and_hazards R242). -/
def bootSequence (cfg : Config) (load : Vector Word 2) (outputsOff : Bool) : List Instr :=
  Pseudo.expand (.dirsIn (lowMask cfg.nLines.val))
    ++ Pseudo.expand (.dirsOut 0)
    ++ (if outputsOff then [.wrGpioOutData (lowMask cfg.nPwm.val)] else [])
    ++ (channels cfg).flatMap (fun c => Pseudo.expand (.tmrConfig c load[c]))
    ++ Pseudo.expand .intcStart
    ++ (channels cfg).flatMap (fun c => Pseudo.expand (.tmrStart c))
    ++ [.setIe true]

/-! ### Text -/

/-- What the assembler makes of one line. -/
inductive Assembled where
  | word (T : Txn)
  /-- A blank or comment line. -/
  | blank
  /-- The line is not of a form of 30_encoding R92. -/
  | badText
  /-- The word exists but the decoder refuses it; the assembler refuses what 30_encoding R88 refuses. -/
  | refused (r : RefuseReason)
deriving DecidableEq, Repr

/-- Register names (30_encoding R92). -/
def regNames : List (String × Reg) :=
  [("gpio_in.data", .gpioInData), ("gpio_in.tri", .gpioInTri),
   ("gpio_out.data", .gpioOutData), ("gpio_out.tri", .gpioOutTri),
   ("tmr.tcsr0", .tcsr 0), ("tmr.tlr0", .tlr 0), ("tmr.tcr0", .tcr 0),
   ("tmr.tcsr1", .tcsr 1), ("tmr.tlr1", .tlr 1), ("tmr.tcr1", .tcr 1),
   ("intc.isr", .isr), ("intc.ipr", .ipr), ("intc.ier", .ier), ("intc.iar", .iar), ("intc.mer", .mer),
   ("core.db_state", .dbState), ("core.phase", .phase), ("core.blink", .blink),
   ("core.duty0", .duty 0), ("core.duty1", .duty 1), ("core.duty2", .duty 2)]

/-- The register a name stands for. -/
def regNamed (t : List Char) : Option Reg :=
  (regNames.find? fun p => p.1.toList == t).map (·.2)

/-- The value of a digit in base 16. -/
def digitValue (ch : Char) : Option Nat :=
  if '0' ≤ ch ∧ ch ≤ '9' then some (ch.toNat - '0'.toNat)
  else if 'a' ≤ ch ∧ ch ≤ 'f' then some (ch.toNat - 'a'.toNat + 10)
  else none

/-- Digits in a base, most significant first, continuing from `acc`. -/
def digitsValue (base : Nat) (acc : Nat) : List Char → Option Nat
  | [] => some acc
  | ch :: rest =>
    match digitValue ch with
    | some d => if d < base then digitsValue base (acc * base + d) rest else none
    | none => none

/-- A decimal or 0x-hex literal below `bound`. R92 gives this form for `<imm32>`; that every operand takes it, with leading
zeros, is a DESIGN CHOICE (log 21). -/
def literal (bound : Nat) (t : List Char) : Option Nat :=
  let n := match t with
    | '0' :: 'x' :: d :: rest => digitsValue 16 0 (d :: rest)
    | d :: rest => digitsValue 10 0 (d :: rest)
    | [] => none
  n.filter (· < bound)

/-- Lower-case tokens of a line: `#` starts a comment, blanks separate, a comma is a token of its own
(30_encoding R92; log 21). -/
def tokens (cur : List Char) : List Char → List (List Char)
  | [] => if cur = [] then [] else [cur]
  | '#' :: _ => if cur = [] then [] else [cur]
  | ch :: rest =>
    if ch.isWhitespace then (if cur = [] then tokens [] rest else cur :: tokens [] rest)
    else if ch = ',' then (if cur = [] then [','] :: tokens [] rest else cur :: [','] :: tokens [] rest)
    else tokens (cur ++ [ch.toLower]) rest

/-- The word a list of tokens names (30_encoding R92), before the decoder's checks. R92 gives a literal form for `<imm32>` only:
DESIGN CHOICE (log 21), `<i>`, `<raw>`, `<c>` and the operand of `setie` take the same form, each below a bound above which the
line has no form of R92. DESIGN CHOICE (log 25): a pseudo-instruction's name starts no line, so its text is `badText`. -/
def tokensWord (ts : List (List Char)) : Option Txn :=
  match ts with
  | [op] => if op = "reset".toList then some (encodeOther .reset 0 0) else none
  | [op, a] =>
    if op = "rd".toList then (regNamed a).map encodeRd
    else if op = "tclk".toList then (literal 256 a).map fun c => encodeOther .tclk (BitVec.ofNat 8 c) 0
    else if op = "setie".toList then (literal 2 a).map fun v => encodeOther .setie 0 (BitVec.ofNat 32 v)
    else if op = "strobe".toList then
      if a = "pwm_tick".toList then some (encodeOther .strobe 0 0)
      else if a = "blink_toggle".toList then some (encodeOther .strobe 1 0)
      else none
    else none
  | [op, a, comma, b] =>
    if comma ≠ [','] then none
    else if op = "wr".toList then
      match regNamed a, literal (2 ^ 32) b with
      | some r, some v => some (encodeWr r (BitVec.ofNat 32 v))
      | _, _ => none
    else if op = "sample".toList then
      match literal 256 a, literal (2 ^ 32) b with
      | some i, some raw => some (encodeOther .sample (BitVec.ofNat 8 i) (BitVec.ofNat 32 raw))
      | _, _ => none
    else none
  | _ => none

/-- The assembler on one line (30_encoding R92). -/
def assembleLine (cfg : Config) (line : String) : Assembled :=
  match tokens [] line.toList with
  | [] => .blank
  | ts =>
    match tokensWord ts with
    | none => .badText
    | some T =>
      match decode cfg (usualIssuer T) T with
      | .op _ => .word T
      | .refuse r => .refused r

end Sys2Proof.Machine
end

