-- ==== Sys2Proof/Safety.lean ====
section
/-! DEFINITION. What counts as a safe run, in the terms the statements use: the invariants of the block, runs and their
fairness (20_memory R62, R63, R76; 60_exceptions R219), and sequences of operations. -/

namespace Sys2Proof.Machine

/-! ### Acceptable states and runs -/

/-- No fault recorded and nothing refused: the premise of every claim (20_memory R76, 60_exceptions R201). -/
abbrev State.Clean (s : State) : Prop := s.faults = [] ∧ s.refused = false

/-- An infinite run (20_memory R76: a run has no end). -/
def IsRun (r : Nat → State) : Prop := ∀ n, step (r n) = .next (r (n + 1))

/-- Weak fairness to the sequencer: a step of it that stays enabled, entry included, is taken (20_memory R62,
60_exceptions R219). -/
def FairToHandler (r : Nat → State) : Prop :=
  ∀ n, (∀ m, n ≤ m → (r m).handlerEnabled = true) → ∃ m, n ≤ m ∧ (r m).nextInput = .handler

/-- Every channel has infinitely many timer events (20_memory R63). -/
def FairToTimers (r : Nat → State) : Prop :=
  ∀ c : Fin 2, c.val < (r 0).cfg.nTch.val → ∀ n, ∃ m, n ≤ m ∧ (r m).nextInput = .timer (encode (.tclk c))

/-! ### Invariants -/

/-- Reserved bits of the stored registers are 0 and elements at or above a configured count have their reset value
(10_state R23, R25 to R29; log 18). -/
abbrev State.InRange (s : State) : Prop :=
  s.gpioInTri &&& ~~~(lowMask s.cfg.nLines.val) = 0
  ∧ s.gpioOutData &&& ~~~(lowMask s.cfg.nPwm.val) = 0
  ∧ s.gpioOutTri &&& ~~~(lowMask s.cfg.nPwm.val) = 0
  ∧ (∀ i : Fin 32, s.cfg.nLines.val ≤ i.val → s.db[i] = .idle)
  ∧ (∀ k : Fin 3, s.cfg.nPwm.val ≤ k.val → s.duty[k] = 0)
  ∧ (∀ c : Fin 2, s.cfg.nTch.val ≤ c.val → s.timers[c] = Timer.zero ∧ s.expired[c] = 0 ∧ s.merged[c] = 0)

/-- Until a direction register is written it holds its reset value, the output latch still holds OUT_RESET and every line is
Idle (10_state R26 to R30; 70_reset_and_hazards R250). -/
abbrev State.DirectionFirst (s : State) : Prop :=
  (s.triWrittenIn = false → s.gpioInTri = lowMask s.cfg.nLines.val ∧ ∀ i : Fin 32, s.db[i] = .idle)
  ∧ (s.triWrittenOut = false →
      s.gpioOutTri = lowMask s.cfg.nPwm.val
      ∧ s.gpioOutData = s.cfg.outReset.setWidth 32 &&& lowMask s.cfg.nPwm.val)

/-- A pending TINT means Running (41_timer R130), and Running means the mode 0xD2 (R122, R126). -/
abbrev Tcsr.Sound (t : Tcsr) : Prop :=
  (t.tint = true → t.ent = true)
  ∧ (t.ent = true → t.udt = true ∧ t.arht = true ∧ t.enit = true ∧ t.load = false)

/-- Every channel's TCSR is sound, and no channel merged more expiries than it had (41_timer R126, R130). -/
abbrev State.TimersSound (s : State) : Prop :=
  ∀ c : Fin 2, s.timers[c].tcsr.Sound ∧ s.merged[c] ≤ s.expired[c]

/-- The sequencer stands at an existing channel, and at ACK(c) the latch V holds 0x1D2 and TINT is still set
(60_exceptions R210, R213). -/
def State.HandlerSound (s : State) : Prop :=
  match s.seq with
  | .idle | .iar | .ret => True
  | .rd c | .act c => c.val < s.cfg.nTch.val
  | .ack c => c.val < s.cfg.nTch.val ∧ s.v = 0x1D2 ∧ s.timers[c].tcsr.tint = true

/-- ISR latches only while HIE = 1, and while HIE = 1 and the timer line is high it is set (42_interrupt_ack R150). -/
abbrev State.LatchSound (s : State) : Prop :=
  (s.isr = true → s.hie = true) ∧ (s.hie = true → s.tmrIrq = true → s.isr = true)

/-- The invariant of the block: legal parameters and the five invariants above. -/
structure State.Inv (s : State) : Prop where
  legal : s.cfg.Legal
  inRange : s.InRange
  directionFirst : s.DirectionFirst
  timersSound : s.TimersSound
  handlerSound : s.HandlerSound
  latchSound : s.LatchSound

/-! ### Sequences of operations -/

/-- The states after each of a list of operations, as long as each answers a next state. -/
def execTrace : List Instr → State → List State
  | [], _ => []
  | i :: rest, s =>
    match exec i s with
    | .next t => t :: execTrace rest t
    | _ => []

/-- The state after a list of operations, if each answers a next state. -/
def execAll : List Instr → State → Option State
  | [], s => some s
  | i :: rest, s =>
    match exec i s with
    | .next t => execAll rest t
    | _ => none

/-- n steps of the sequencer with no other agent's step between them, each with its post-step latch. -/
def handlerRun : Nat → State → Option State
  | 0, s => some s
  | n + 1, s =>
    match handlerStep s with
    | .next t => handlerRun n t.endStep
    | _ => none

/-- The number of falling edges in a sequence of sampled levels whose previous level is `prev` (40_debounce R109). -/
def fallingEdges (prev : Bool) : List Bool → Nat
  | [] => 0
  | b :: rest => (if prev && !b then 1 else 0) + fallingEdges b rest

/-- The last sampled level, or `prev` where there is none (40_debounce R101). -/
def lastLevel (prev : Bool) : List Bool → Bool
  | [] => prev
  | b :: rest => lastLevel b rest

/-- The existing channels with a pending TINT whose action is `a` (60_exceptions R210, R214). -/
def State.pendingWith (s : State) (a : ChAction) : Nat :=
  (([0, 1] : List (Fin 2)).filter fun c =>
    decide (c.val < s.cfg.nTch.val) && s.timers[c].tcsr.tint && decide (s.cfg.chAction[c] = a)).length

/-- The existing channels with a pending TINT: the `s` of the bound of 60_exceptions R219. -/
def State.pendingChannels (s : State) : Nat :=
  (([0, 1] : List (Fin 2)).filter fun c =>
    decide (c.val < s.cfg.nTch.val) && s.timers[c].tcsr.tint).length

/-- TCSR without its pending flag: the effect of a peripheral-level acknowledge (41_timer R122). -/
def Timer.acknowledged (t : Timer) : Timer := { t with tcsr := { t.tcsr with tint := false } }

/-! ### The tables the statements compare the meanings with -/

/-- The register offsets of each unit, the indexed rows with every value of their index field (20_memory R65). -/
def offsetsOf : RegUnit → List (BitVec 8)
  | .gpioIn => [0x00, 0x04]
  | .gpioOut => [0x00, 0x04]
  | .tmr => [0x00, 0x04, 0x08, 0x10, 0x14, 0x18]
  | .intc => [0x00, 0x04, 0x08, 0x0C, 0x1C]
  | .core => [0x00, 0x04, 0x08, 0x10, 0x14, 0x18, 0x1C]

/-- The timer channel an operation names (41_timer R127). -/
def channelOfInstr : Instr → Option (Fin 2)
  | .rdTmrTcsr c | .wrTmrTcsr c _ | .rdTmrTlr c | .wrTmrTlr c _ | .rdTmrTcr c | .tclk c => some c
  | _ => none

/-- The cause column of 60_exceptions R202: the fault an operation raises in a state, if any. -/
def faultCause (s : State) : Instr → Option FaultCode
  | .sample _ _ | .rdGpioInData => if s.triWrittenIn = false then some .dataBeforeDirection else none
  | .strobePwmTick | .rdGpioOutData | .wrGpioOutData _ =>
    if s.triWrittenOut = false then some .dataBeforeDirection else none
  | .wrGpioInTri _ => if s.triWrittenIn = true then some .directionRewritten else none
  | .wrGpioOutTri _ => if s.triWrittenOut = true then some .directionRewritten else none
  | .wrTmrTcsr c d =>
    if s.tstate c = .running ∧ d.extractLsb' 0 8 ≠ 0xD2 then some .timerReconfiguredWhileRunning
    else if s.tstate c = .disabled ∧ d.extractLsb' 0 8 = 0xD2 then some .timerStartNotConfigured
    else none
  | .wrTmrTlr c _ => if s.tstate c = .running then some .timerLoadWhileRunning else none
  | _ => none

/-- The bits of a RD's response that are not reserved (10_state R25 to R43). -/
def readBits (cfg : Config) : Instr → Word
  | .rdGpioInData | .rdGpioInTri | .rdCoreDbState => lowMask cfg.nLines.val
  | .rdGpioOutData | .rdGpioOutTri => lowMask cfg.nPwm.val
  | .rdTmrTcsr _ => tcsrMask
  | .rdTmrTlr _ | .rdTmrTcr _ => 0xFFFFFFFF
  | .rdIntcMer => 0x3
  | .rdCorePhase | .rdCoreDuty _ => 0xFF
  | .rdIntcIsr | .rdIntcIpr | .rdIntcIer | .rdCoreBlink => 0x1
  | _ => 0

end Sys2Proof.Machine
end

