-- ==== Sys2Proof/Certificates/Slice0/Obligations.lean ====
section
/-! DEFINITION. The statements about the block for the provers, in the order: encoding, outcomes, debounce, timers,
interrupt controller and blink flag, PWM and output port, handler, reset, invariants. -/

open Sys2Proof Sys2Proof.Machine

/-! ### Encoding -/

/-- 30_encoding R80 to R88: the decoder reads back every operation of the block, whatever its operands. -/
def Obligations.EncodeThenDecodeReturnsTheInstruction : Prop :=
  ∀ (cfg : Config) (a : Agent) (i : Instr),
    wellFormed cfg i = true → mayIssue a i.kind = true → decode cfg a (encode i) = .op i

/-- 30_encoding R88, R90: every accepted word is the encoding of a well-formed operation of its issuer, bit for bit. -/
def Obligations.AcceptedWordsAreEncodings : Prop :=
  ∀ (cfg : Config) (a : Agent) (T : Txn) (i : Instr), decode cfg a T = .op i →
    wellFormed cfg i = true ∧ mayIssue a i.kind = true ∧ encode i = T

/-- 30_encoding R88, R95: the decoded operation's row of opcode_table.json accepts the word, and no word satisfies two rows. -/
def Obligations.OpcodeRowsAcceptAndAreDisjoint : Prop :=
  (∀ (cfg : Config) (a : Agent) (T : Txn) (i : Instr), decode cfg a T = .op i → (tableRow i).Accepts T)
  ∧ (∀ (i j : Instr) (T : Txn), (tableRow i).Accepts T → (tableRow j).Accepts T → tableRow i = tableRow j)

/-- 30_encoding R88: the order of the first checks: kind, reserved field, issuer, unit. -/
def Obligations.FirstRefusalIsTheFirstCheck : Prop :=
  ∀ (cfg : Config) (a : Agent) (T : Txn),
    (7 ≤ T.kindField.toNat → decode cfg a T = .refuse .reservedKind)
    ∧ (T.kindField.toNat < 7 → T.rsv ≠ 0 → decode cfg a T = .refuse .reservedField)
    ∧ (∀ K, Kind.ofCode T.kindField = some K → T.rsv = 0 → mayIssue a K = false →
        decode cfg a T = .refuse .wrongIssuer)
    ∧ (∀ K, Kind.ofCode T.kindField = some K → T.rsv = 0 → mayIssue a K = true →
        (K = .rd ∨ K = .wr) → 5 ≤ T.unitField.toNat → decode cfg a T = .refuse .reservedUnit)
    ∧ (∀ K, Kind.ofCode T.kindField = some K → T.rsv = 0 → mayIssue a K = true →
        ¬(K = .rd ∨ K = .wr) → T.unitField ≠ 0 → decode cfg a T = .refuse .reservedUnit)

/-- 20_memory R65, R66: an offset that the map does not list, one that is no multiple of 4 among them, names no register, read or
written; nor does a listed one in a direction it does not have. -/
def Obligations.OnlyTheMapNamesRegisters : Prop :=
  (∀ (cfg : Config) (a : Agent) (T : Txn) (u : RegUnit), (a = .host ∨ a = .seq) → T.kindField.toNat < 2 →
      T.rsv = 0 → T.unitField = u.code → T.sel ∉ offsetsOf u → decode cfg a T = .refuse .noSuchRegister)
  ∧ (∀ (cfg : Config) (a : Agent) (T : Txn), (a = .host ∨ a = .seq) → T.kindField.toNat < 2 → T.rsv = 0 →
      T.unitField.toNat < 5 → T.sel.toNat % 4 ≠ 0 → decode cfg a T = .refuse .noSuchRegister)
  ∧ (∀ (cfg : Config) (a : Agent) (D : Word) (c : Fin 2), (a = .host ∨ a = .seq) →
      decode cfg a (encodeRd .iar) = .refuse .noSuchRegister
      ∧ decode cfg a (encodeWr .gpioInData D) = .refuse .noSuchRegister
      ∧ decode cfg a (encodeWr (.tcr c) D) = .refuse .noSuchRegister
      ∧ decode cfg a (encodeWr .isr D) = .refuse .noSuchRegister
      ∧ decode cfg a (encodeWr .ipr D) = .refuse .noSuchRegister
      ∧ decode cfg a (encodeWr .dbState D) = .refuse .noSuchRegister
      ∧ decode cfg a (encodeWr .phase D) = .refuse .noSuchRegister
      ∧ decode cfg a (encodeWr .blink D) = .refuse .noSuchRegister)

/-- 30_encoding R82, R84 to R88: the operand forms of the kinds that name no register, what each refuses, the data of a RD, and the
index of a timer register. -/
def Obligations.OperandFormsAndTheirRefusals : Prop :=
  ∀ (cfg : Config) (T : Txn), T.rsv = 0 →
    (T.kindField = 0x3 → T.unitField = 0 →
      (cfg.nTch.val ≤ T.sel.toNat → decode cfg .timer T = .refuse .indexRange)
      ∧ (T.sel.toNat < cfg.nTch.val → T.data ≠ 0 → decode cfg .timer T = .refuse .reservedField)
      ∧ (∀ c : Fin 2, c.val < cfg.nTch.val → T.sel.toNat = c.val → T.data = 0 →
          decode cfg .timer T = .op (.tclk c)))
    ∧ (T.kindField = 0x4 → T.unitField = 0 →
      (2 ≤ T.sel.toNat → decode cfg .seq T = .refuse .reservedStrobe)
      ∧ (T.sel.toNat < 2 → T.data ≠ 0 → decode cfg .seq T = .refuse .reservedField)
      ∧ (T.sel = 0x00 → T.data = 0 → decode cfg .seq T = .op .strobePwmTick)
      ∧ (T.sel = 0x01 → T.data = 0 → decode cfg .seq T = .op .strobeBlinkToggle))
    ∧ (T.kindField = 0x5 → T.unitField = 0 →
      (T.sel ≠ 0 ∨ T.data.extractLsb' 1 31 ≠ 0 → decode cfg .host T = .refuse .reservedField)
      ∧ (T.sel = 0 → T.data = 0 → decode cfg .host T = .op (.setIe false))
      ∧ (T.sel = 0 → T.data = 1 → decode cfg .host T = .op (.setIe true)))
    ∧ (T.kindField = 0x6 → T.unitField = 0 →
      (T.sel ≠ 0 ∨ T.data ≠ 0 → decode cfg .env T = .refuse .reservedField)
      ∧ (T.sel = 0 → T.data = 0 → decode cfg .env T = .op .reset))
    ∧ (∀ (a : Agent) (r : Reg) (i : Instr), (a = .host ∨ a = .seq) → T.kindField = 0x0 →
        T.unitField = r.unit.code → T.sel = r.offset → readOp cfg r = .op i → T.data ≠ 0 →
        decode cfg a T = .refuse .reservedField)
    ∧ (∀ (a : Agent) (c : Fin 2) (D : Word), (a = .host ∨ a = .seq) → cfg.nTch.val ≤ c.val →
        decode cfg a (encodeRd (.tcsr c)) = .refuse .indexRange
        ∧ decode cfg a (encodeRd (.tlr c)) = .refuse .indexRange
        ∧ decode cfg a (encodeRd (.tcr c)) = .refuse .indexRange
        ∧ decode cfg a (encodeWr (.tcsr c) D) = .refuse .indexRange
        ∧ decode cfg a (encodeWr (.tlr c) D) = .refuse .indexRange)

/-- 10_state R23: reserved bits read 0, and a WR with a 1 in a reserved bit is refused without effect. -/
def Obligations.ReservedBitsReadZeroAndAreNotWritten : Prop :=
  (∀ (i : Instr) (s t : State) (v : Word), i.kind = .rd → exec i s = .next t → t.resp = .value v →
    v &&& ~~~(readBits s.cfg i) = 0)
  ∧ (∀ (s : State) (a : Agent) (r : Reg) (d : Word) (i : Instr), (a = .host ∨ a = .seq) →
      writeOp s.cfg d r = .op i → r.setsReserved s.cfg d = true →
      transaction a (encodeWr r d) s
        = .next { s with issuer := a, refused := true, resp := .refused .reservedDataBits })

/-- 30_encoding R94: each example of the table, its text and its word. -/
def Obligations.SpecExamplesAssembleAndDecode : Prop :=
  (assembleLine .pDual "rd gpio_in.data" = .word 0x0000000000000000
    ∧ decode .pDual .host 0x0000000000000000 = .op .rdGpioInData)
  ∧ (assembleLine .pDual "wr gpio_in.tri, 0x3" = .word 0x1000000400000003
    ∧ decode .pDual .host 0x1000000400000003 = .op (.wrGpioInTri 0x3))
  ∧ (assembleLine .pDual "wr gpio_out.tri, 0x0" = .word 0x1100000400000000
    ∧ decode .pDual .host 0x1100000400000000 = .op (.wrGpioOutTri 0x0))
  ∧ (assembleLine .pDual "wr gpio_out.data, 0x7" = .word 0x1100000000000007
    ∧ decode .pDual .host 0x1100000000000007 = .op (.wrGpioOutData 0x7))
  ∧ (assembleLine .pDual "wr tmr.tlr0, 9" = .word 0x1200000400000009
    ∧ decode .pDual .host 0x1200000400000009 = .op (.wrTmrTlr 0 9))
  ∧ (assembleLine .pDual "wr tmr.tcsr0, 0x72" = .word 0x1200000000000072
    ∧ decode .pDual .host 0x1200000000000072 = .op (.wrTmrTcsr 0 0x72))
  ∧ (assembleLine .pDual "wr tmr.tcsr0, 0xd2" = .word 0x12000000000000D2
    ∧ decode .pDual .host 0x12000000000000D2 = .op (.wrTmrTcsr 0 0xD2))
  ∧ (assembleLine .pDual "wr tmr.tcsr1, 0x1d2" = .word 0x12000010000001D2
    ∧ decode .pDual .host 0x12000010000001D2 = .op (.wrTmrTcsr 1 0x1D2))
  ∧ (assembleLine .pDual "rd tmr.tcr1" = .word 0x0200001800000000
    ∧ decode .pDual .host 0x0200001800000000 = .op (.rdTmrTcr 1))
  ∧ (assembleLine .pDual "wr intc.mer, 0x3" = .word 0x1300001C00000003
    ∧ decode .pDual .host 0x1300001C00000003 = .op (.wrIntcMer 0x3))
  ∧ (assembleLine .pDual "wr intc.iar, 0x1" = .word 0x1300000C00000001
    ∧ decode .pDual .host 0x1300000C00000001 = .op (.wrIntcIar 0x1))
  ∧ (assembleLine .pDual "rd core.db_state" = .word 0x0400000000000000
    ∧ decode .pDual .host 0x0400000000000000 = .op .rdCoreDbState)
  ∧ (assembleLine .pDual "wr core.duty2, 0xff" = .word 0x14000018000000FF
    ∧ decode .pDual .host 0x14000018000000FF = .op (.wrCoreDuty 2 0xFF))
  ∧ (assembleLine .pDual "sample 1, 0" = .word 0x2000000100000000
    ∧ decode .pDual .host 0x2000000100000000 = .op (.sample 1 false))
  ∧ (assembleLine .pDual "tclk 1" = .word 0x3000000100000000
    ∧ decode .pDual .timer 0x3000000100000000 = .op (.tclk 1))
  ∧ (assembleLine .pDual "strobe blink_toggle" = .word 0x4000000100000000
    ∧ decode .pDual .seq 0x4000000100000000 = .op .strobeBlinkToggle)
  ∧ (assembleLine .pDual "setie 1" = .word 0x5000000000000001
    ∧ decode .pDual .host 0x5000000000000001 = .op (.setIe true))
  ∧ (assembleLine .pDual "reset" = .word 0x6000000000000000
    ∧ decode .pDual .env 0x6000000000000000 = .op .reset)

/-! ### Outcomes of a step -/

/-- 60_exceptions R200: a faulted state has no step of any agent; every other state has one. That step answers
a faulted state with the fault `quiescent` is log 3's reading. -/
def Obligations.OnlyFaultedStatesAreQuiescent : Prop :=
  ∀ s : State, (s.faults ≠ [] → step s = .fault .quiescent) ∧ (s.faults = [] → ∃ t, step s = .next t)

/-- 60_exceptions R201: a refused word of HOST, TIMER or ENV sets REFUSED and changes nothing else; then the step ends as every
step does, with the latch (42_interrupt_ack R150). The fields `inputs`, `issuer`, `resp` and `steps` are the model's own record
(logs 1, 4, 5, 6, 15). -/
def Obligations.RefusedWordOnlyMarksTheState : Prop :=
  ∀ (s : State) (a : Agent) (inp : Input) (rest : List Input) (T : Txn) (r : RefuseReason),
    s.faults = [] → s.inputs = inp :: rest →
    ((inp = .host T ∧ a = .host ∧ s.seq = .idle) ∨ (inp = .timer T ∧ a = .timer) ∨ (inp = .env T ∧ a = .env)) →
    decode s.cfg a T = .refuse r →
    step s = .next
      { s with
        inputs := rest, issuer := a, refused := true, resp := .refused r
        isr := s.isr || (s.hie && s.tmrIrq), steps := s.steps + 1 }

/-- 60_exceptions R202: an operation faults exactly where the table gives a cause, and then only the record is added; the
sequencer's entry and its RD, ACK, IAR and RET steps never fault; and the codes of the faults. That the record's n counts the
steps before the faulting one is log 6's reading. -/
def Obligations.FaultsAreThoseOfTheTable : Prop :=
  (∀ (i : Instr) (s : State), ∃ t, exec i s = .next t ∧
    match faultCause s i with
    | some code =>
      t = { s with
            faults := s.faults ++ [{ code := code, word := encode i, issuer := s.issuer, n := s.steps }]
            resp := .faulted code }
    | none => t.faults = s.faults)
  ∧ (∀ (s t : State), s.Inv → (∀ c, s.seq ≠ .act c) → handlerStep s = .next t → t.faults = s.faults)
  ∧ [FaultCode.dataBeforeDirection, .directionRewritten, .timerStartNotConfigured,
      .timerReconfiguredWhileRunning, .timerLoadWhileRunning].map FaultCode.number = [1, 2, 3, 4, 5]

/-- 60_exceptions R203, reason 9: the one refusal an operation itself raises; and the codes of the reasons. -/
def Obligations.ExecuteRefusesOnlyUnsupportedTimerModes : Prop :=
  (∀ (i : Instr) (s t : State), exec i s = .next t →
    (t.refused = s.refused ∧ ∀ r, t.resp ≠ .refused r)
    ∨ (∃ c d, i = .wrTmrTcsr c d ∧ s.tstate c ≠ .running ∧ d.getLsbD 7 = true ∧ d.extractLsb' 0 8 ≠ 0xD2
        ∧ t = { s with refused := true, resp := .refused .unsupportedTimerMode }))
  ∧ [RefuseReason.reservedKind, .reservedField, .wrongIssuer, .reservedUnit, .noSuchRegister, .indexRange,
      .reservedStrobe, .reservedDataBits, .unsupportedTimerMode].map RefuseReason.number
    = [1, 2, 3, 4, 5, 6, 7, 8, 9]

/-- 10_state R47: FAULTS and REFUSED are empty and 0 at power-on and are never cleared, not even by RESET. -/
def Obligations.FaultsAndRefusedAreNeverCleared : Prop :=
  (∀ cfg : Config, (State.powerOn cfg).faults = [] ∧ (State.powerOn cfg).refused = false)
  ∧ (∀ s t : State, step s = .next t → s.faults <+: t.faults ∧ (s.refused = true → t.refused = true))

/-- 10_state R52: EXPIRED and MERGED never go down, and an operation moves them only at an expiry of their channel. -/
def Obligations.ExpiryCountersOnlyGrow : Prop :=
  (∀ s t : State, step s = .next t → ∀ c : Fin 2, s.expired[c] ≤ t.expired[c] ∧ s.merged[c] ≤ t.merged[c])
  ∧ (∀ (i : Instr) (s t : State) (c : Fin 2), exec i s = .next t →
      (t.expired[c] ≠ s.expired[c] ∨ t.merged[c] ≠ s.merged[c]) →
      i = .tclk c ∧ s.tstate c = .running ∧ s.timers[c].tcr = 0 ∧ t.expired[c] = s.expired[c] + 1)

/-- 20_memory R69: no RD has a side effect on block state; only the response and the draw counter move. -/
def Obligations.ReadsHaveNoSideEffect : Prop :=
  ∀ (i : Instr) (s t : State), i.kind = .rd → exec i s = .next t → t.faults = s.faults →
    t = { s with resp := t.resp, draws := t.draws }

/-- 20_memory R69: two identical WRs in a row leave the same state as one, except a WR to a TRI register. -/
def Obligations.RepeatedWriteChangesNothingMore : Prop :=
  ∀ (i : Instr) (s t : State), i.kind = .wr → (∀ d, i ≠ .wrGpioInTri d) → (∀ d, i ≠ .wrGpioOutTri d) →
    exec i s = .next t → t.faults = s.faults → exec i t = .next t

/-- 20_memory R60: a step whose move is a word that decodes is that operation, then the latch, and the step is counted. A HOST word
needs SEQ = IDLE (R61); TIMER and ENV words are taken in every state (R63). -/
def Obligations.StepRunsTheDecodedInstruction : Prop :=
  ∀ (s : State) (a : Agent) (inp : Input) (rest : List Input) (T : Txn) (i : Instr),
    s.faults = [] → s.inputs = inp :: rest →
    ((inp = .host T ∧ a = .host ∧ s.seq = .idle) ∨ (inp = .timer T ∧ a = .timer) ∨ (inp = .env T ∧ a = .env)) →
    decode s.cfg a T = .op i →
    ∃ u, exec i { s with inputs := rest, issuer := a } = .next u
      ∧ step s = .next { u with isr := u.isr || (u.hie && u.tmrIrq), steps := u.steps + 1 }

/-! ### Debounce and the input port -/

/-- 40_debounce R100: SAMPLE, its truth table, its fault and the decoder's refusals of it. -/
def Obligations.SampleFollowsItsTruthTable : Prop :=
  (∀ (s : State) (i : Fin 32) (raw : Bool), s.triWrittenIn = true →
    exec (.sample i raw) s = .next
      { s with
        db := s.db.set i (match s.db[i], raw with
          | .idle, false => .idle
          | .idle, true => .pressed
          | .pressed, true => .pressed
          | .pressed, false => .idle)
        resp := .value (match s.db[i], raw with
          | .pressed, false => 1
          | _, _ => 0) })
  ∧ (∀ (s : State) (i : Fin 32) (raw : Bool), s.triWrittenIn = false →
    ∃ n : Nat, exec (.sample i raw) s = .next
      { s with
        faults := s.faults ++
          [{ code := .dataBeforeDirection, word := encode (.sample i raw), issuer := s.issuer, n := n }]
        resp := .faulted .dataBeforeDirection })
  ∧ (∀ (i : Fin 32) (raw : Bool),
      encode (.sample i raw)
        = 0x2000000000000000 ||| (BitVec.ofNat 64 i.val <<< 32) ||| (if raw then 1 else 0))
  ∧ (∀ (cfg : Config) (S : BitVec 8) (D : Word), cfg.nLines.val ≤ S.toNat →
      decode cfg .host (encodeOther .sample S D) = .refuse .indexRange)
  ∧ (∀ (cfg : Config) (S : BitVec 8) (D : Word), S.toNat < cfg.nLines.val → D.extractLsb' 1 31 ≠ 0 →
      decode cfg .host (encodeOther .sample S D) = .refuse .reservedField)
  ∧ (∀ (cfg : Config) (a : Agent) (S : BitVec 8) (D : Word), a ≠ .host →
      decode cfg a (encodeOther .sample S D) = .refuse .wrongIssuer)

/-- 40_debounce R101, R109: over consecutive SAMPLEs of a line, the state is the last level and the triggers are the falling edges of
the sampled levels, the level before them being the line's state. -/
def Obligations.TriggersAreTheFallingEdges : Prop :=
  ∀ (s : State) (i : Fin 32) (raws : List Bool), s.triWrittenIn = true →
    ∃ t, execAll (raws.map (Instr.sample i)) s = some t
      ∧ (t.db[i] = .pressed ↔ lastLevel (s.db[i] == .pressed) raws = true)
      ∧ ((execTrace (raws.map (Instr.sample i)) s).filter fun u => u.resp == .value 1).length
          = fallingEdges (s.db[i] == .pressed) raws

/-- 40_debounce R104: RD CORE.DB_STATE. -/
def Obligations.DbStateReadShowsTheLines : Prop :=
  encode .rdCoreDbState = 0x0400000000000000
  ∧ ∀ s : State, ∃ v : Word, exec .rdCoreDbState s = .next { s with resp := .value v }
      ∧ ∀ j : Fin 32, v.getLsbD j.val = (decide (j.val < s.cfg.nLines.val) && s.db[j] == .pressed)

/-- 40_debounce R105: RD GPIO_IN.DATA is a draw of the lines, after the direction write; before it, a fault. That the draw is the
opaque constant `Config.pinDraw` at the count of draws, which the read advances, is the model's choice (log 7). -/
def Obligations.PinReadIsADrawOfTheLines : Prop :=
  encode .rdGpioInData = 0x0000000000000000
  ∧ (∀ s : State, s.triWrittenIn = true →
      ∃ v : Word, exec .rdGpioInData s = .next { s with draws := s.draws + 1, resp := .value v }
        ∧ ∀ j : Fin 32, v.getLsbD j.val
            = (decide (j.val < s.cfg.nLines.val) && (Config.pinDraw s.draws).getLsbD j.val))
  ∧ (∀ s : State, s.triWrittenIn = false →
      ∃ n : Nat, exec .rdGpioInData s = .next
        { s with
          faults := s.faults ++
            [{ code := .dataBeforeDirection, word := 0x0000000000000000, issuer := s.issuer, n := n }]
          resp := .faulted .dataBeforeDirection })

/-- 40_debounce R106, R107: WR and RD GPIO_IN.TRI. -/
def Obligations.InputDirectionIsWrittenOnceAndReadBack : Prop :=
  (∀ d : Word, encode (.wrGpioInTri d) = 0x1000000400000000 ||| d.setWidth 64)
  ∧ encode .rdGpioInTri = 0x0000000400000000
  ∧ (∀ (s : State) (d : Word), s.triWrittenIn = false →
      ∃ w : Word, exec (.wrGpioInTri d) s
          = .next { s with gpioInTri := w, triWrittenIn := true, resp := .silent }
        ∧ ∀ j : Fin 32, w.getLsbD j.val = (decide (j.val < s.cfg.nLines.val) && d.getLsbD j.val))
  ∧ (∀ (s : State) (d : Word), s.triWrittenIn = true →
      ∃ n : Nat, exec (.wrGpioInTri d) s = .next
        { s with
          faults := s.faults ++
            [{ code := .directionRewritten, word := 0x1000000400000000 ||| d.setWidth 64, issuer := s.issuer
               n := n }]
          resp := .faulted .directionRewritten })
  ∧ (∀ s : State, ∃ v : Word, exec .rdGpioInTri s = .next { s with resp := .value v }
      ∧ ∀ j : Fin 32, v.getLsbD j.val = (decide (j.val < s.cfg.nLines.val) && s.gpioInTri.getLsbD j.val))
  ∧ (∀ (cfg : Config) (a : Agent) (D : Word) (j : Fin 32), (a = .host ∨ a = .seq) → cfg.nLines.val ≤ j.val →
      D.getLsbD j.val = true → decode cfg a (encodeWr .gpioInTri D) = .refuse .reservedDataBits)

/-- 10_state R42, 40_debounce R108: only SAMPLE of a line and RESET write its DB, and the handler never does. -/
def Obligations.DebounceStateBelongsToSample : Prop :=
  (∀ (i : Instr) (s t : State) (n : Fin 32), exec i s = .next t → (∀ raw, i ≠ .sample n raw) → i ≠ .reset →
    t.db[n] = s.db[n])
  ∧ (∀ s t : State, handlerStep s = .next t → t.db = s.db)

/-! ### Timer channels -/

/-- 41_timer R121: RD TMR.TCSR[c], bit by bit. -/
def Obligations.TcsrReadShowsTheStoredFields : Prop :=
  (∀ c : Fin 2, encode (.rdTmrTcsr c) = 0x0200000000000000 ||| (BitVec.ofNat 64 (0x10 * c.val) <<< 32))
  ∧ ∀ (s : State) (c : Fin 2), ∃ v : Word, exec (.rdTmrTcsr c) s = .next { s with resp := .value v }
      ∧ ∀ j : Fin 32, v.getLsbD j.val = (match j.val with
          | 1 => s.timers[c].tcsr.udt
          | 4 => s.timers[c].tcsr.arht
          | 5 => s.timers[c].tcsr.load
          | 6 => s.timers[c].tcsr.enit
          | 7 => s.timers[c].tcsr.ent
          | 8 => s.timers[c].tcsr.tint
          | _ => false)

/-- 41_timer R123, R125: RD TMR.TLR[c] and RD TMR.TCR[c]. -/
def Obligations.LoadAndCounterReads : Prop :=
  (∀ c : Fin 2, encode (.rdTmrTlr c) = 0x0200000000000000 ||| (BitVec.ofNat 64 (0x04 + 0x10 * c.val) <<< 32))
  ∧ (∀ c : Fin 2, encode (.rdTmrTcr c) = 0x0200000000000000 ||| (BitVec.ofNat 64 (0x08 + 0x10 * c.val) <<< 32))
  ∧ (∀ (s : State) (c : Fin 2), exec (.rdTmrTlr c) s = .next { s with resp := .value s.timers[c].tlr })
  ∧ (∀ (s : State) (c : Fin 2), exec (.rdTmrTcr c) s = .next { s with resp := .value s.timers[c].tcr })

/-- 41_timer R122: WR TMR.TCSR[c]: where it completes and with what effect, its three stops, and the reserved bits the
decoder refuses. -/
def Obligations.TcsrWriteFollowsItsRule : Prop :=
  (∀ (c : Fin 2) (d : Word),
    encode (.wrTmrTcsr c d) = 0x1200000000000000 ||| (BitVec.ofNat 64 (0x10 * c.val) <<< 32) ||| d.setWidth 64)
  ∧ (∀ (s : State) (c : Fin 2) (d : Word),
      (s.tstate c = .running ∧ d.extractLsb' 0 8 = 0xD2)
        ∨ (s.tstate c ≠ .running ∧ d.getLsbD 7 = false)
        ∨ (s.tstate c = .configured ∧ d.extractLsb' 0 8 = 0xD2) →
      exec (.wrTmrTcsr c d) s = .next
        { s with
          timers := s.timers.set c
            { tcsr :=
                { udt := d.getLsbD 1, arht := d.getLsbD 4, load := d.getLsbD 5, enit := d.getLsbD 6
                  ent := d.getLsbD 7, tint := if d.getLsbD 8 then false else s.timers[c].tcsr.tint }
              tlr := s.timers[c].tlr
              tcr := if d.getLsbD 5 then s.timers[c].tlr else s.timers[c].tcr }
          resp := .silent })
  ∧ (∀ (s : State) (c : Fin 2) (d : Word), s.tstate c = .running → d.extractLsb' 0 8 ≠ 0xD2 →
      ∃ n : Nat, exec (.wrTmrTcsr c d) s = .next
        { s with
          faults := s.faults ++
            [{ code := .timerReconfiguredWhileRunning, word := encode (.wrTmrTcsr c d), issuer := s.issuer
               n := n }]
          resp := .faulted .timerReconfiguredWhileRunning })
  ∧ (∀ (s : State) (c : Fin 2) (d : Word), s.tstate c ≠ .running → d.getLsbD 7 = true →
      d.extractLsb' 0 8 ≠ 0xD2 →
      exec (.wrTmrTcsr c d) s = .next { s with refused := true, resp := .refused .unsupportedTimerMode })
  ∧ (∀ (s : State) (c : Fin 2) (d : Word), s.tstate c = .disabled → d.extractLsb' 0 8 = 0xD2 →
      ∃ n : Nat, exec (.wrTmrTcsr c d) s = .next
        { s with
          faults := s.faults ++
            [{ code := .timerStartNotConfigured, word := encode (.wrTmrTcsr c d), issuer := s.issuer
               n := n }]
          resp := .faulted .timerStartNotConfigured })
  ∧ (∀ (cfg : Config) (a : Agent) (c : Fin 2) (D : Word) (j : Fin 32), (a = .host ∨ a = .seq) →
      c.val < cfg.nTch.val → (j = 0 ∨ j = 2 ∨ j = 3 ∨ 9 ≤ j.val) → D.getLsbD j.val = true →
      decode cfg a (encodeWr (.tcsr c) D) = .refuse .reservedDataBits)

/-- 41_timer R120: the life cycle of a channel: what a completed WR TCSR leaves, and that only RESET ends Running. -/
def Obligations.RunningEndsOnlyAtReset : Prop :=
  (∀ (s t : State) (c : Fin 2) (d : Word), exec (.wrTmrTcsr c d) s = .next t → t.resp = .silent →
    t.tstate c = (if d.extractLsb' 0 8 = 0xD2 then .running
      else if d.getLsbD 1 && d.getLsbD 4 && d.getLsbD 6 then .configured
      else .disabled))
  ∧ (∀ (i : Instr) (s t : State) (c : Fin 2), exec i s = .next t → i ≠ .reset → s.tstate c = .running →
      t.tstate c = .running)
  ∧ (∀ (s t : State) (c : Fin 2), exec .reset s = .next t → t.tstate c = .disabled)

/-- 41_timer R124: WR TMR.TLR[c]. -/
def Obligations.TlrWriteLoadsAStoppedChannel : Prop :=
  (∀ (c : Fin 2) (d : Word),
    encode (.wrTmrTlr c d)
      = 0x1200000000000000 ||| (BitVec.ofNat 64 (0x04 + 0x10 * c.val) <<< 32) ||| d.setWidth 64)
  ∧ (∀ (s : State) (c : Fin 2) (d : Word), s.tstate c ≠ .running →
      exec (.wrTmrTlr c d) s = .next
        { s with
          timers := s.timers.set c
            { tcsr := s.timers[c].tcsr, tlr := d
              tcr := if s.timers[c].tcsr.load then d else s.timers[c].tcr }
          resp := .silent })
  ∧ (∀ (s : State) (c : Fin 2) (d : Word), s.tstate c = .running →
      ∃ n : Nat, exec (.wrTmrTlr c d) s = .next
        { s with
          faults := s.faults ++
            [{ code := .timerLoadWhileRunning, word := encode (.wrTmrTlr c d), issuer := s.issuer, n := n }]
          resp := .faulted .timerLoadWhileRunning })

/-- 41_timer R126: TCLK c: a stopped channel absorbs it, a running one counts down or expires; who may issue it and for which
channels. -/
def Obligations.TimerEventCountsDownOrExpires : Prop :=
  (∀ c : Fin 2, encode (.tclk c) = 0x3000000000000000 ||| (BitVec.ofNat 64 c.val <<< 32))
  ∧ (∀ (s : State) (c : Fin 2), s.tstate c ≠ .running →
      exec (.tclk c) s = .next { s with resp := .silent })
  ∧ (∀ (s : State) (c : Fin 2), s.tstate c = .running → s.timers[c].tcr = 0 →
      exec (.tclk c) s = .next
        { s with
          timers := s.timers.set c
            { tcsr := { s.timers[c].tcsr with tint := true }, tlr := s.timers[c].tlr, tcr := s.timers[c].tlr }
          expired := s.expired.set c (s.expired[c] + 1)
          merged := s.merged.set c (s.merged[c] + if s.timers[c].tcsr.tint then 1 else 0)
          resp := .silent })
  ∧ (∀ (s : State) (c : Fin 2) (m : Nat), s.tstate c = .running → s.timers[c].tcr.toNat = m + 1 →
      ∃ n : Word, n.toNat = m ∧ exec (.tclk c) s = .next
        { s with
          timers := s.timers.set c { tcsr := s.timers[c].tcsr, tlr := s.timers[c].tlr, tcr := n }
          resp := .silent })
  ∧ (∀ (cfg : Config) (a : Agent) (S : BitVec 8) (D : Word), a ≠ .timer →
      decode cfg a (encodeOther .tclk S D) = .refuse .wrongIssuer)
  ∧ (∀ (cfg : Config) (S : BitVec 8) (D : Word), cfg.nTch.val ≤ S.toNat →
      decode cfg .timer (encodeOther .tclk S D) = .refuse .indexRange)

/-- 41_timer R127: an operation on one channel, and every operation but RESET that names none, leaves the registers and counters of a
channel it does not name. -/
def Obligations.ChannelsAreIsolated : Prop :=
  ∀ (i : Instr) (s t : State) (c : Fin 2), exec i s = .next t → i ≠ .reset → channelOfInstr i ≠ some c →
    t.timers[c] = s.timers[c] ∧ t.expired[c] = s.expired[c] ∧ t.merged[c] = s.merged[c]

/-- 41_timer R128: the period law: with TCR = n and TLR = L a running channel expires first at its (n+1)-th event and then at every
(L+1)-th. -/
def Obligations.ExpiriesFollowThePeriodLaw : Prop :=
  ∀ (s : State) (c : Fin 2) (k : Nat), s.tstate c = .running →
    ∃ t, execAll (List.replicate k (Instr.tclk c)) s = some t
      ∧ t.expired[c] = s.expired[c]
          + (if k ≤ s.timers[c].tcr.toNat then 0
             else 1 + (k - s.timers[c].tcr.toNat - 1) / (s.timers[c].tlr.toNat + 1))
      ∧ t.timers[c].tcr.toNat
          = (if k ≤ s.timers[c].tcr.toNat then s.timers[c].tcr.toNat - k
             else s.timers[c].tlr.toNat
               - (k - s.timers[c].tcr.toNat - 1) % (s.timers[c].tlr.toNat + 1))

/-- 41_timer R129, 42_interrupt_ack R163: TINT rises exactly when EXPIRED grows and MERGED does not. -/
def Obligations.UnmergedExpiriesAreTheRisesOfTint : Prop :=
  ∀ (i : Instr) (s t : State) (c : Fin 2), exec i s = .next t →
    ((s.timers[c].tcsr.tint = false ∧ t.timers[c].tcsr.tint = true)
      ↔ (t.expired[c] = s.expired[c] + 1 ∧ t.merged[c] = s.merged[c]))

/-! ### Interrupt controller, host enable and blink flag -/

/-- 42_interrupt_ack R152, R153, R154, R157: the controller's registers as read. -/
def Obligations.ControllerReads : Prop :=
  encode .rdIntcIsr = 0x0300000000000000 ∧ encode .rdIntcIpr = 0x0300000400000000
  ∧ encode .rdIntcIer = 0x0300000800000000 ∧ encode .rdIntcMer = 0x0300001C00000000
  ∧ (∀ s : State, exec .rdIntcIsr s = .next { s with resp := .value (if s.isr then 1 else 0) })
  ∧ (∀ s : State, exec .rdIntcIpr s = .next { s with resp := .value (if s.isr ∧ s.ier then 1 else 0) })
  ∧ (∀ s : State, exec .rdIntcIer s = .next { s with resp := .value (if s.ier then 1 else 0) })
  ∧ (∀ s : State, exec .rdIntcMer s
      = .next { s with resp := .value ((if s.hie then 2 else 0) ||| (if s.me then 1 else 0)) })
  ∧ (∀ (cfg : Config) (a : Agent) (D : Word), (a = .host ∨ a = .seq) →
      decode cfg a (encodeWr .isr D) = .refuse .noSuchRegister)

/-- 42_interrupt_ack R155, R156, R158: the controller's registers as written, before the latch of R150. -/
def Obligations.ControllerWrites : Prop :=
  (∀ d : Word, encode (.wrIntcIer d) = 0x1300000800000000 ||| d.setWidth 64)
  ∧ (∀ d : Word, encode (.wrIntcIar d) = 0x1300000C00000000 ||| d.setWidth 64)
  ∧ (∀ d : Word, encode (.wrIntcMer d) = 0x1300001C00000000 ||| d.setWidth 64)
  ∧ (∀ (s : State) (d : Word), exec (.wrIntcIer d) s = .next { s with ier := d.getLsbD 0, resp := .silent })
  ∧ (∀ (s : State) (d : Word), exec (.wrIntcIar d) s
      = .next { s with isr := if d.getLsbD 0 then false else s.isr, resp := .silent })
  ∧ (∀ (s : State) (d : Word), exec (.wrIntcMer d) s
      = .next { s with me := d.getLsbD 0, hie := s.hie || d.getLsbD 1, resp := .silent })
  ∧ (∀ (cfg : Config) (a : Agent) (D : Word), (a = .host ∨ a = .seq) →
      (D.extractLsb' 1 31 ≠ 0 → decode cfg a (encodeWr .ier D) = .refuse .reservedDataBits)
      ∧ (D.extractLsb' 1 31 ≠ 0 → decode cfg a (encodeWr .iar D) = .refuse .reservedDataBits)
      ∧ (D.extractLsb' 2 30 ≠ 0 → decode cfg a (encodeWr .mer D) = .refuse .reservedDataBits)
      ∧ (D = 0 → decode cfg a (encodeRd .iar) = .refuse .noSuchRegister))

/-- 42_interrupt_ack R150: every step of every agent ends with the latch: its ISR is the ISR the step left, or the timer line while
HIE = 1; so no step ends with the line high, HIE = 1 and ISR = 0. -/
def Obligations.EveryStepEndsWithTheLatch : Prop :=
  ∀ s t : State, step s = .next t →
    (∃ u, perform s.nextInput s.popInput = .next u
      ∧ t = { u with isr := u.isr || (u.hie && u.tmrIrq), steps := u.steps + 1 })
    ∧ (t.hie = true → t.tmrIrq = true → t.isr = true)

/-- 42_interrupt_ack R151: what can make IRQ fall, the latch applied. The premise is the part of the invariant that says ISR is set only
under HIE. -/
def Obligations.IrqFallsOnlyByTheFourWays : Prop :=
  ∀ (i : Instr) (s t : State), (s.isr = true → s.hie = true) → exec i s = .next t → s.irq = true →
    t.latch.irq = false →
    (∃ d : Word, i = .wrIntcIar d ∧ d.getLsbD 0 = true ∧ t.tmrIrq = false)
    ∨ (∃ d : Word, i = .wrIntcIer d ∧ d.getLsbD 0 = false)
    ∨ (∃ d : Word, i = .wrIntcMer d ∧ d.getLsbD 0 = false)
    ∨ i = .reset

/-- 42_interrupt_ack R162: an acknowledge while the timer line is high is undone by the latch; one with the line low clears ISR; and
nothing but an acknowledge or RESET clears it. -/
def Obligations.AcknowledgeOrderLaw : Prop :=
  (∀ (s t : State) (d : Word), d.getLsbD 0 = true → s.hie = true → exec (.wrIntcIar d) s = .next t →
    t.latch.isr = s.tmrIrq)
  ∧ (∀ (i : Instr) (s t : State), exec i s = .next t → s.isr = true → i ≠ .reset →
      (∀ d : Word, i = .wrIntcIar d → d.getLsbD 0 = false) → t.latch.isr = true)

/-- 42_interrupt_ack R159, R160, R161: SETIE, STROBE BLINK_TOGGLE and RD CORE.BLINK, and who may issue the first two. -/
def Obligations.HostEnableAndBlinkFlag : Prop :=
  (∀ v : Bool, encode (.setIe v) = 0x5000000000000000 ||| (if v then 1 else 0))
  ∧ encode .strobeBlinkToggle = 0x4000000100000000 ∧ encode .rdCoreBlink = 0x0400000800000000
  ∧ (∀ (s : State) (v : Bool), exec (.setIe v) s = .next { s with hostIE := v, resp := .silent })
  ∧ (∀ s : State, ∃ b : Bool, b ≠ s.blink
      ∧ exec .strobeBlinkToggle s = .next { s with blink := b, resp := .silent })
  ∧ (∀ s : State, exec .rdCoreBlink s = .next { s with resp := .value (if s.blink then 1 else 0) })
  ∧ (∀ (cfg : Config) (a : Agent) (D : Word), a ≠ .host →
      decode cfg a (encodeOther .setie 0 D) = .refuse .wrongIssuer)
  ∧ (∀ (cfg : Config) (a : Agent), a ≠ .seq →
      decode cfg a 0x4000000100000000 = .refuse .wrongIssuer)

/-! ### PWM and the output port -/

/-- 43_pwm R170: STROBE PWM_TICK: the incremented phase, every output bit from it, nothing else; before the direction write, a fault. -/
def Obligations.PwmTickComparesTheNewPhase : Prop :=
  encode .strobePwmTick = 0x4000000000000000
  ∧ (∀ s : State, s.triWrittenOut = true →
      ∃ (p : Byte) (w : Word), p.toNat = (s.phase.toNat + 1) % 256
        ∧ exec .strobePwmTick s = .next { s with phase := p, gpioOutData := w, resp := .silent }
        ∧ (∀ k : Fin 3, k.val < s.cfg.nPwm.val →
            w.getLsbD k.val = !decide (p.toNat < s.duty[k].toNat))
        ∧ (∀ j : Nat, s.cfg.nPwm.val ≤ j → w.getLsbD j = false))
  ∧ (∀ s : State, s.triWrittenOut = false →
      ∃ n : Nat, exec .strobePwmTick s = .next
        { s with
          faults := s.faults ++
            [{ code := .dataBeforeDirection, word := 0x4000000000000000, issuer := s.issuer, n := n }]
          resp := .faulted .dataBeforeDirection })
  ∧ (∀ (cfg : Config) (a : Agent), a ≠ .seq → decode cfg a 0x4000000000000000 = .refuse .wrongIssuer)

/-- 43_pwm R178: over 256 consecutive ticks with duty d, exactly d write bit k = 0 and 256 − d write it 1, and they give the phase each
value once. -/
def Obligations.DutyIsTheCountOfActiveTicks : Prop :=
  ∀ (s : State) (k : Fin 3), s.triWrittenOut = true → k.val < s.cfg.nPwm.val →
    ((execTrace (List.replicate 256 .strobePwmTick) s).filter
        fun u => !u.gpioOutData.getLsbD k.val).length = s.duty[k].toNat
    ∧ ((execTrace (List.replicate 256 .strobePwmTick) s).filter
        fun u => u.gpioOutData.getLsbD k.val).length = 256 - s.duty[k].toNat
    ∧ (∀ p : Byte, ((execTrace (List.replicate 256 .strobePwmTick) s).filter fun u => u.phase == p).length = 1)

/-- 43_pwm R182: n ticks that do not fault add n to the phase, mod 256, and a full period leaves it where it was. -/
def Obligations.PhaseCountsTheTicks : Prop :=
  ∀ (s : State) (n : Nat), s.triWrittenOut = true →
    ∃ t, execAll (List.replicate n .strobePwmTick) s = some t
      ∧ t.phase.toNat = (s.phase.toNat + n) % 256 ∧ t.duty = s.duty

/-- 43_pwm R181: the bit a tick writes for channel k depends only on PHASE and DUTY[k]. -/
def Obligations.PwmChannelsAreIndependent : Prop :=
  ∀ (s₁ s₂ t₁ t₂ : State) (k : Fin 3), s₁.triWrittenOut = true → s₂.triWrittenOut = true →
    k.val < s₁.cfg.nPwm.val → k.val < s₂.cfg.nPwm.val →
    s₁.phase = s₂.phase → s₁.duty[k] = s₂.duty[k] →
    exec .strobePwmTick s₁ = .next t₁ → exec .strobePwmTick s₂ = .next t₂ →
    t₁.gpioOutData.getLsbD k.val = t₂.gpioOutData.getLsbD k.val

/-- 43_pwm R171, R172, R173: the duty and phase registers, and the decoder's refusals of a duty access. -/
def Obligations.DutyAndPhaseRegisters : Prop :=
  (∀ (k : Fin 3) (d : Word), encode (.wrCoreDuty k d)
      = 0x1400000000000000 ||| (BitVec.ofNat 64 (0x10 + 4 * k.val) <<< 32) ||| d.setWidth 64)
  ∧ (∀ k : Fin 3, encode (.rdCoreDuty k)
      = 0x0400000000000000 ||| (BitVec.ofNat 64 (0x10 + 4 * k.val) <<< 32))
  ∧ encode .rdCorePhase = 0x0400000400000000
  ∧ (∀ (s : State) (k : Fin 3) (d : Word),
      exec (.wrCoreDuty k d) s = .next { s with duty := s.duty.set k (d.setWidth 8), resp := .silent })
  ∧ (∀ (s : State) (k : Fin 3), ∃ v : Word, v.toNat = s.duty[k].toNat
      ∧ exec (.rdCoreDuty k) s = .next { s with resp := .value v })
  ∧ (∀ s : State, ∃ v : Word, v.toNat = s.phase.toNat
      ∧ exec .rdCorePhase s = .next { s with resp := .value v })
  ∧ (∀ (cfg : Config) (a : Agent) (k : Fin 4) (D : Word), (a = .host ∨ a = .seq) → cfg.nPwm.val ≤ k.val →
      decode cfg a (encodeWr (.duty k) D) = .refuse .indexRange
      ∧ decode cfg a (encodeRd (.duty k)) = .refuse .indexRange)
  ∧ (∀ (cfg : Config) (a : Agent) (k : Fin 4) (D : Word), (a = .host ∨ a = .seq) → k.val < cfg.nPwm.val →
      D.extractLsb' 8 24 ≠ 0 → decode cfg a (encodeWr (.duty k) D) = .refuse .reservedDataBits)
  ∧ (∀ (cfg : Config) (a : Agent) (D : Word), (a = .host ∨ a = .seq) →
      decode cfg a (encodeWr .phase D) = .refuse .noSuchRegister)

/-- 43_pwm R174, R175: RD and WR GPIO_OUT.DATA, after the direction write and before it. -/
def Obligations.OutputLatchAccess : Prop :=
  encode .rdGpioOutData = 0x0100000000000000
  ∧ (∀ d : Word, encode (.wrGpioOutData d) = 0x1100000000000000 ||| d.setWidth 64)
  ∧ (∀ s : State, s.triWrittenOut = true →
      ∃ v : Word, exec .rdGpioOutData s = .next { s with resp := .value v }
        ∧ ∀ j : Fin 32, v.getLsbD j.val = (decide (j.val < s.cfg.nPwm.val) && s.gpioOutData.getLsbD j.val))
  ∧ (∀ (s : State) (d : Word), s.triWrittenOut = true →
      ∃ w : Word, exec (.wrGpioOutData d) s = .next { s with gpioOutData := w, resp := .silent }
        ∧ ∀ j : Fin 32, w.getLsbD j.val = (decide (j.val < s.cfg.nPwm.val) && d.getLsbD j.val))
  ∧ (∀ s : State, s.triWrittenOut = false →
      ∃ n : Nat, exec .rdGpioOutData s = .next
        { s with
          faults := s.faults ++
            [{ code := .dataBeforeDirection, word := 0x0100000000000000, issuer := s.issuer, n := n }]
          resp := .faulted .dataBeforeDirection })
  ∧ (∀ (s : State) (d : Word), s.triWrittenOut = false →
      ∃ n : Nat, exec (.wrGpioOutData d) s = .next
        { s with
          faults := s.faults ++
            [{ code := .dataBeforeDirection, word := 0x1100000000000000 ||| d.setWidth 64, issuer := s.issuer
               n := n }]
          resp := .faulted .dataBeforeDirection })
  ∧ (∀ (cfg : Config) (a : Agent) (D : Word) (j : Fin 32), (a = .host ∨ a = .seq) → cfg.nPwm.val ≤ j.val →
      D.getLsbD j.val = true → decode cfg a (encodeWr .gpioOutData D) = .refuse .reservedDataBits)

/-- 43_pwm R176, R177: RD and WR GPIO_OUT.TRI. -/
def Obligations.OutputDirectionIsWrittenOnceAndReadBack : Prop :=
  encode .rdGpioOutTri = 0x0100000400000000
  ∧ (∀ d : Word, encode (.wrGpioOutTri d) = 0x1100000400000000 ||| d.setWidth 64)
  ∧ (∀ s : State, ∃ v : Word, exec .rdGpioOutTri s = .next { s with resp := .value v }
      ∧ ∀ j : Fin 32, v.getLsbD j.val = (decide (j.val < s.cfg.nPwm.val) && s.gpioOutTri.getLsbD j.val))
  ∧ (∀ (s : State) (d : Word), s.triWrittenOut = false →
      ∃ w : Word, exec (.wrGpioOutTri d) s
          = .next { s with gpioOutTri := w, triWrittenOut := true, resp := .silent }
        ∧ ∀ j : Fin 32, w.getLsbD j.val = (decide (j.val < s.cfg.nPwm.val) && d.getLsbD j.val))
  ∧ (∀ (s : State) (d : Word), s.triWrittenOut = true →
      ∃ n : Nat, exec (.wrGpioOutTri d) s = .next
        { s with
          faults := s.faults ++
            [{ code := .directionRewritten, word := 0x1100000400000000 ||| d.setWidth 64, issuer := s.issuer
               n := n }]
          resp := .faulted .directionRewritten })
  ∧ (∀ (cfg : Config) (a : Agent) (D : Word) (j : Fin 32), (a = .host ∨ a = .seq) → cfg.nPwm.val ≤ j.val →
      D.getLsbD j.val = true → decode cfg a (encodeWr .gpioOutTri D) = .refuse .reservedDataBits)

/-- 43_pwm R180, 10_state R31: an output pin changes only at a tick, a host WR of the latch, the direction write or RESET; a pin whose
direction bit is 0 shows its latch bit and another is not driven; and the pins are those of the N_PWM channels (R183). -/
def Obligations.OutputPinsAreGlitchFree : Prop :=
  (∀ (i : Instr) (s t : State) (k : Fin 3), exec i s = .next t → t.pwmPin k ≠ s.pwmPin k →
    i = .strobePwmTick ∨ (∃ d, i = .wrGpioOutData d) ∨ (∃ d, i = .wrGpioOutTri d) ∨ i = .reset)
  ∧ (∀ (i : Instr) (s t : State), exec i s = .next t → t.gpioOutData ≠ s.gpioOutData →
      i = .strobePwmTick ∨ (∃ d, i = .wrGpioOutData d) ∨ i = .reset)
  ∧ (∀ (s : State) (k : Fin 3), k.val < s.cfg.nPwm.val → s.pwmPin k
      = some (if s.gpioOutTri.getLsbD k.val = false then .driven (s.gpioOutData.getLsbD k.val) else .z))
  ∧ (∀ (s : State) (k : Fin 3), s.cfg.nPwm.val ≤ k.val → s.pwmPin k = none)

/-- 10_state R43, R48, 43_pwm R182: who writes the phase, the blink flag, the duties and the host enable. -/
def Obligations.PwmAndBlinkStateOwners : Prop :=
  ∀ (i : Instr) (s t : State), exec i s = .next t → i ≠ .reset →
    (i ≠ .strobePwmTick → t.phase = s.phase)
    ∧ (i ≠ .strobeBlinkToggle → t.blink = s.blink)
    ∧ (∀ k : Fin 3, (∀ d, i ≠ .wrCoreDuty k d) → t.duty[k] = s.duty[k])
    ∧ ((∀ v, i ≠ .setIe v) → t.hostIE = s.hostIE)
    ∧ t.seq = s.seq ∧ t.v = s.v

/-! ### The handler sequencer -/

/-- 60_exceptions R211: at SEQ = IDLE the handler is entered when IRQ = 1 and HOST_IE = 1, and then only SEQ changes; at SEQ = IDLE with
IRQ = 0 or HOST_IE = 0 its turn passes to the next move, which is the model's choice (log 2). With SEQ not IDLE its turn is its next
step, which `WhileTheHandlerRunsItSteps` states. -/
def Obligations.HandlerEntryAtIdleNeedsIrqAndEnable : Prop :=
  (∀ (s : State) (rest : List Input), s.faults = [] → s.inputs = .handler :: rest →
    s.seq = .idle → s.irq = true → s.hostIE = true →
    step s = .next
      { s with
        inputs := rest, seq := .rd 0, issuer := .seq, resp := .silent
        isr := s.isr || (s.hie && s.tmrIrq), steps := s.steps + 1 })
  ∧ (∀ (s : State) (rest : List Input), s.inputs = .handler :: rest → s.seq = .idle →
      (s.irq = false ∨ s.hostIE = false) → step s = step { s with inputs := rest })

/-- 60_exceptions R210, R212 to R216: one sequencer step from each position, in every state that meets the invariant.
The fault record's n is log 6's reading, and that a faulting step leaves SEQ and V is log 24's. -/
def Obligations.HandlerStepsFollowTheTable : Prop :=
  ∀ s : State, s.Inv →
    (∀ c : Fin 2, s.seq = .rd c →
      handlerStep s = .next
        { s with
          issuer := .seq, v := s.timers[c].tcsr.toWord, resp := .value s.timers[c].tcsr.toWord
          seq := if s.timers[c].tcsr.tint then .ack c
            else if c.val + 1 < s.cfg.nTch.val then .rd 1 else .iar })
    ∧ (∀ c : Fin 2, s.seq = .ack c →
        handlerStep s = .next
          { s with
            issuer := .seq, timers := s.timers.set c s.timers[c].acknowledged, resp := .silent
            seq := .act c })
    ∧ (∀ c : Fin 2, s.seq = .act c → (s.cfg.chAction[c] = .pwmTick → s.triWrittenOut = true) →
        ∃ t, handlerStep s = .next t
          ∧ t = { s with
                  issuer := .seq, resp := .silent
                  phase := if s.cfg.chAction[c] = .pwmTick then s.phase + 1 else s.phase
                  gpioOutData := t.gpioOutData
                  blink := if s.cfg.chAction[c] = .blinkToggle then !s.blink else s.blink
                  seq := if c.val + 1 < s.cfg.nTch.val then .rd 1 else .iar }
          ∧ (s.cfg.chAction[c] ≠ .pwmTick → t.gpioOutData = s.gpioOutData)
          ∧ (s.cfg.chAction[c] = .pwmTick → ∀ k : Fin 3, k.val < s.cfg.nPwm.val →
              t.gpioOutData.getLsbD k.val = !decide (t.phase.toNat < s.duty[k].toNat)))
    ∧ (∀ c : Fin 2, s.seq = .act c → s.cfg.chAction[c] = .pwmTick → s.triWrittenOut = false →
        handlerStep s = .next
          { s with
            issuer := .seq
            faults := s.faults ++
              [{ code := .dataBeforeDirection, word := 0x4000000000000000, issuer := .seq, n := s.steps }]
            resp := .faulted .dataBeforeDirection })
    ∧ (s.seq = .iar →
        handlerStep s = .next { s with issuer := .seq, isr := false, resp := .silent, seq := .ret })
    ∧ (s.seq = .ret → handlerStep s = .next { s with issuer := .seq, resp := .silent, seq := .idle })

/-- 60_exceptions R217: what a sequencer step never writes. -/
def Obligations.HandlerNeverWritesTheHostsState : Prop :=
  ∀ s t : State, s.Inv → handlerStep s = .next t →
    t.db = s.db ∧ t.duty = s.duty ∧ t.ier = s.ier ∧ t.me = s.me ∧ t.hie = s.hie
    ∧ t.gpioInTri = s.gpioInTri ∧ t.gpioOutTri = s.gpioOutTri ∧ t.hostIE = s.hostIE
    ∧ (∀ c : Fin 2, t.timers[c].tlr = s.timers[c].tlr ∧ t.timers[c].tcr = s.timers[c].tcr
        ∧ t.timers[c].tcsr.ent = s.timers[c].tcsr.ent)

/-- 20_memory R60, R61: while the handler runs, its turn is its next step, and a HOST word waits while the handler steps;
that it waits in the schedule is the model's choice (log 2). -/
def Obligations.WhileTheHandlerRunsItSteps : Prop :=
  (∀ (s : State) (rest : List Input), s.faults = [] → s.seq ≠ .idle → s.inputs = .handler :: rest →
    ∃ u, handlerStep { s with inputs := rest } = .next u
      ∧ step s = .next { u with isr := u.isr || (u.hie && u.tmrIrq), steps := u.steps + 1 })
  ∧ (∀ (s : State) (T : Txn) (rest : List Input), s.faults = [] → s.seq ≠ .idle →
    s.inputs = .host T :: rest →
    ∃ u, handlerStep s = .next u ∧ u.inputs = s.inputs
      ∧ step s = .next { u with isr := u.isr || (u.hie && u.tmrIrq), steps := u.steps + 1 })

/-- 60_exceptions R219, R222, 42_interrupt_ack R164: an invocation with no other agent's step takes 3 + N_TCH + 2·s steps from entry to
RET, serves every pending channel, and leaves IRQ = 0. -/
def Obligations.InvocationServesAllAndIsBounded : Prop :=
  ∀ s : State, s.Inv → s.faults = [] → s.seq = .idle → s.irq = true → s.triWrittenOut = true →
    (∃ t, handlerRun (3 + s.cfg.nTch.val + 2 * s.pendingChannels) s = some t
      ∧ t.seq = .idle ∧ t.irq = false ∧ t.faults = [] ∧ t.refused = s.refused
      ∧ (∀ c : Fin 2, t.timers[c] = s.timers[c].acknowledged)
      ∧ t.phase = s.phase + BitVec.ofNat 8 (s.pendingWith .pwmTick)
      ∧ (t.blink = s.blink ↔ s.pendingWith .blinkToggle % 2 = 0)
      ∧ t.expired = s.expired ∧ t.merged = s.merged)
    ∧ (∀ n, 0 < n → n < 3 + s.cfg.nTch.val + 2 * s.pendingChannels →
        ∃ u, handlerRun n s = some u ∧ u.seq ≠ .idle)

/-! ### Reset -/

/-- 70_reset_and_hazards R240: RESET gives every element its reset value and keeps FAULTS, REFUSED, EXPIRED and MERGED; only ENV may
issue it. -/
def Obligations.ResetGivesEveryElementItsResetValue : Prop :=
  encode .reset = 0x6000000000000000
  ∧ (∀ (cfg : Config) (a : Agent), a ≠ .env → decode cfg a 0x6000000000000000 = .refuse .wrongIssuer)
  ∧ (∀ s : State, ∃ t, exec .reset s = .next t
      ∧ t.seq = .idle ∧ t.v = 0 ∧ t.hostIE = false ∧ t.triWrittenIn = false ∧ t.triWrittenOut = false
      ∧ (∀ c : Fin 2, t.timers[c].tcsr = ⟨false, false, false, false, false, false⟩
          ∧ t.timers[c].tlr = 0 ∧ t.timers[c].tcr = 0)
      ∧ t.isr = false ∧ t.ier = false ∧ t.me = false ∧ t.hie = false
      ∧ (∀ i : Fin 32, t.db[i] = .idle)
      ∧ t.phase = 0 ∧ t.blink = false ∧ (∀ k : Fin 3, t.duty[k] = 0)
      ∧ (∀ j : Fin 32, t.gpioInTri.getLsbD j.val = decide (j.val < s.cfg.nLines.val))
      ∧ (∀ j : Fin 32, t.gpioOutTri.getLsbD j.val = decide (j.val < s.cfg.nPwm.val))
      ∧ (∀ j : Fin 32, t.gpioOutData.getLsbD j.val
          = (decide (j.val < s.cfg.nPwm.val) && s.cfg.outReset.getLsbD j.val))
      ∧ t.faults = s.faults ∧ t.refused = s.refused ∧ t.expired = s.expired ∧ t.merged = s.merged
      ∧ t.cfg = s.cfg)

/-- 70_reset_and_hazards R241: the power-on state is what RESET leaves, with FAULTS empty, REFUSED = 0 and the counters 0. -/
def Obligations.PowerOnIsTheResetState : Prop :=
  (∀ cfg : Config, exec .reset (State.powerOn cfg) = .next (State.powerOn cfg)
    ∧ (State.powerOn cfg).faults = [] ∧ (State.powerOn cfg).refused = false
    ∧ (∀ c : Fin 2, (State.powerOn cfg).expired[c] = 0 ∧ (State.powerOn cfg).merged[c] = 0)
    ∧ (∀ i : Fin 32, (State.powerOn cfg).db[i] = .idle))
  ∧ (State.reset.gpioInTri = 0x3 ∧ State.reset.gpioOutTri = 0x7 ∧ State.reset.gpioOutData = 0x0
      ∧ State.reset.seq = .idle ∧ State.reset.hostIE = false ∧ State.reset.ier = false
      ∧ State.reset.me = false ∧ State.reset.hie = false ∧ State.reset.blink = false)

/-! ### Invariants of the machine -/

/-- 41_timer R130, 70_reset_and_hazards R240: the power-on state of every legal configuration meets the invariant. -/
def Obligations.PowerOnMeetsTheInvariant : Prop :=
  ∀ cfg : Config, cfg.Legal → (State.powerOn cfg).Inv

/-- Every step of every agent keeps the invariant: reserved bits and absent elements, direction before data, timer flags and modes, the
handler's position and latch, and the controller's latch. -/
def Obligations.EveryStepKeepsTheBlockInvariant : Prop :=
  ∀ s t : State, s.Inv → step s = .next t → t.Inv

/-- 41_timer R130: TINT = 1 implies Running: so at power-on, and kept by every step of every agent whatever else holds. -/
def Obligations.PendingFlagMeansRunning : Prop :=
  (∀ (cfg : Config) (c : Fin 2), (State.powerOn cfg).timers[c].tcsr.tint = true →
    (State.powerOn cfg).tstate c = .running)
  ∧ (∀ s t : State, (∀ c : Fin 2, s.timers[c].tcsr.tint = true → s.tstate c = .running) → step s = .next t →
      ∀ c : Fin 2, t.timers[c].tcsr.tint = true → t.tstate c = .running)

/-- 00_scope R7, 10_state R23: no step changes the configuration, and the stored registers never show a reserved bit, whatever state the step
starts in that shows none. -/
def Obligations.EveryStepKeepsReservedBitsZero : Prop :=
  ∀ s t : State, step s = .next t → t.cfg = s.cfg ∧ (s.InRange → t.InRange)
end

