-- ==== Sys2Proof/Laws/Bits.lean ====
section
/-! SUPPORT. The bits of the masks, the packed words and the status words: one lemma per function, which later proofs cite. -/

namespace Sys2Proof

theorem lowMask_getLsbD (n j : Nat) (h : n ≤ 32) : (lowMask n).getLsbD j = decide (j < n) := by
  unfold lowMask
  rw [BitVec.getLsbD_ofNat, Nat.testBit_two_pow_sub_one]
  by_cases hj : j < n <;> simp [hj]
  omega

theorem bitsWord_getLsbD (bs : List Bool) (j : Nat) :
    (bitsWord bs).getLsbD j = (decide (j < 32) && bs.getD j false) := by
  simp [bitsWord, BitVec.getLsbD_ofBoolListLE]

theorem and_lowMask_getLsbD (w : Word) (n j : Nat) (h : n ≤ 32) :
    (w &&& lowMask n).getLsbD j = (decide (j < n) && w.getLsbD j) := by
  rw [BitVec.getLsbD_and, lowMask_getLsbD n j h, Bool.and_comm]

/-- What the mask keeps has no bit outside the mask. -/
@[simp] theorem and_and_not_mask (w m : Word) : (w &&& m) &&& ~~~m = 0 := by
  ext j hj
  simp

@[simp] theorem mask_and_not_mask (m : Word) : m &&& ~~~m = 0 := by
  ext j hj
  simp

namespace Machine

theorem flagWord_eq (b : Bool) : flagWord b = if b then 1 else 0 := by
  cases b <;> rfl

@[simp] theorem flagWord_getLsbD (b : Bool) (j : Nat) : (flagWord b).getLsbD j = (decide (j = 0) && b) := by
  cases b <;> simp [flagWord] <;> omega

/-- An output pin that exists (10_state R31). -/
theorem State.pwmPin_of_lt {s : State} {k : Fin 3} (h : k.val < s.cfg.nPwm.val) :
    s.pwmPin k = some (if s.gpioOutTri.getLsbD k.val then .z else .driven (s.gpioOutData.getLsbD k.val)) :=
  if_pos h

/-- There is no pin at or above N_PWM (43_pwm R183). -/
theorem State.pwmPin_of_ge {s : State} {k : Fin 3} (h : s.cfg.nPwm.val ≤ k.val) : s.pwmPin k = none :=
  if_neg (Nat.not_lt.2 h)

/-- The status word of a channel, bit by bit (10_state R32). -/
theorem Tcsr.toWord_getLsbD (t : Tcsr) : ∀ j : Fin 32, t.toWord.getLsbD j.val = (match j.val with
    | 1 => t.udt | 4 => t.arht | 5 => t.load | 6 => t.enit | 7 => t.ent | 8 => t.tint | _ => false) := by
  rcases t with ⟨a, b, c, d, e, f⟩
  revert a b c d e f
  decide

/-- The packed output bits, one by one (43_pwm R170). -/
theorem pwmWord_getLsbD (cfg : Config) (p : Byte) (duty : Vector Byte 3) (j : Nat) :
    (pwmWord cfg p duty).getLsbD j
      = (decide (j < cfg.nPwm.val) && (duty.toList.map (pwmBit p)).getD j false) := by
  unfold pwmWord
  have := cfg.nPwm.isLt
  rw [and_lowMask_getLsbD _ _ _ (by omega), bitsWord_getLsbD]
  by_cases h : j < cfg.nPwm.val
  · simp [h, show j < 32 by omega]
  · simp [h]

/-- The bit of an existing channel: 0 while the phase is below its duty (43_pwm R170). -/
theorem pwmWord_channel (cfg : Config) (p : Byte) (duty : Vector Byte 3) (k : Fin 3) (hk : k.val < cfg.nPwm.val) :
    (pwmWord cfg p duty).getLsbD k.val = !decide (p.toNat < duty[k].toNat) := by
  rw [pwmWord_getLsbD]
  have := k.isLt
  simp [hk, pwmBit, BitVec.lt_def]

end Machine
end Sys2Proof
end

