-- ==== Sys2Proof/Laws/Decode.lean ====
section
/-! SUPPORT. The fields of an assembled word, the register map in both directions, and what each case of the decoder accepts. -/

namespace Sys2Proof

/-! ### Fields of an assembled word -/

@[simp] theorem ofFields_kindField (k u : BitVec 4) (s : BitVec 8) (d : Word) :
    (Txn.ofFields k u s d).kindField = k := by
  ext j hj
  simp only [Txn.ofFields, Txn.kindField, BitVec.getElem_extractLsb', BitVec.getLsbD_append]
  rw [if_neg (by omega), if_neg (by omega), if_neg (by omega), if_neg (by omega),
    ← BitVec.getLsbD_eq_getElem]
  congr 1
  omega

@[simp] theorem ofFields_unitField (k u : BitVec 4) (s : BitVec 8) (d : Word) :
    (Txn.ofFields k u s d).unitField = u := by
  ext j hj
  simp only [Txn.ofFields, Txn.unitField, BitVec.getElem_extractLsb', BitVec.getLsbD_append]
  rw [if_neg (by omega), if_neg (by omega), if_neg (by omega), if_pos (by omega),
    ← BitVec.getLsbD_eq_getElem]
  congr 1
  omega

@[simp] theorem ofFields_rsv (k u : BitVec 4) (s : BitVec 8) (d : Word) :
    (Txn.ofFields k u s d).rsv = 0 := by
  ext j hj
  simp only [Txn.ofFields, Txn.rsv, BitVec.getElem_extractLsb', BitVec.getLsbD_append]
  rw [if_neg (by omega), if_neg (by omega), if_pos (by omega)]
  simp

@[simp] theorem ofFields_sel (k u : BitVec 4) (s : BitVec 8) (d : Word) :
    (Txn.ofFields k u s d).sel = s := by
  ext j hj
  simp only [Txn.ofFields, Txn.sel, BitVec.getElem_extractLsb', BitVec.getLsbD_append]
  rw [if_neg (by omega), if_pos (by omega), ← BitVec.getLsbD_eq_getElem]
  congr 1
  omega

@[simp] theorem ofFields_data (k u : BitVec 4) (s : BitVec 8) (d : Word) :
    (Txn.ofFields k u s d).data = d := by
  ext j hj
  simp only [Txn.ofFields, Txn.data, BitVec.getElem_extractLsb', BitVec.getLsbD_append]
  rw [if_pos (by omega), ← BitVec.getLsbD_eq_getElem]
  congr 1
  omega

/-- A word with RSV = 0 is assembled from its own fields. -/
theorem ofFields_of_fields (T : Txn) (h : T.rsv = 0) :
    Txn.ofFields T.kindField T.unitField T.sel T.data = T := by
  have h0 : ∀ j, T.rsv.getLsbD j = false := by simp [h]
  ext j hj
  rw [← BitVec.getLsbD_eq_getElem]
  simp only [Txn.ofFields, Txn.kindField, Txn.unitField, Txn.sel, Txn.data, BitVec.getLsbD_append,
    BitVec.getLsbD_extractLsb']
  by_cases h1 : j < 32
  · simp [h1, BitVec.getLsbD_eq_getElem hj]
  by_cases h2 : j < 40
  · have : j - 32 < 8 := by omega
    simp [h1, this, show 32 + (j - 32) = j by omega, BitVec.getLsbD_eq_getElem hj]
  by_cases h3 : j < 56
  · have h4 := h0 (j - 40)
    rw [Txn.rsv, BitVec.getLsbD_extractLsb'] at h4
    simp [show j - 40 < 16 by omega, show 40 + (j - 40) = j by omega, BitVec.getLsbD_eq_getElem hj] at h4
    simp [h1, show ¬ j - 32 < 8 by omega, show j - 32 - 8 < 16 by omega, h4]
  by_cases h5 : j < 60
  · simp [h1, show ¬ j - 32 < 8 by omega, show ¬ j - 32 - 8 < 16 by omega, show j - 32 - 8 - 16 < 4 by omega,
      show 56 + (j - 32 - 8 - 16) = j by omega, BitVec.getLsbD_eq_getElem hj]
  · simp [h1, show ¬ j - 32 < 8 by omega, show ¬ j - 32 - 8 < 16 by omega, show ¬ j - 32 - 8 - 16 < 4 by omega,
      show j - 32 - 8 - 16 - 4 < 4 by omega, show 60 + (j - 32 - 8 - 16 - 4) = j by omega,
      BitVec.getLsbD_eq_getElem hj]

/-! ### Kinds and the register map -/

@[simp] theorem ofCode_code (k : Kind) : Kind.ofCode k.code = some k := by cases k <;> decide

theorem code_of_ofCode {x : BitVec 4} {k : Kind} (h : Kind.ofCode x = some k) : x = k.code := by
  revert h; revert k; revert x; decide

@[simp] theorem unit_code_lt (r : Reg) : ¬ 5 ≤ r.unit.code.toNat := by
  cases r <;> simp [Reg.unit, RegUnit.code]

@[simp] theorem regAt_unit_offset (r : Reg) : regAt r.unit.code r.offset = some r := by
  cases r with
  | tcsr c => revert c; decide
  | tlr c => revert c; decide
  | tcr c => revert c; decide
  | duty k => revert k; decide
  | _ => decide

theorem unit_offset_of_regAt {u : BitVec 4} {s : BitVec 8} {r : Reg} (h : regAt u s = some r) :
    u = r.unit.code ∧ s = r.offset := by
  have := List.find?_some h
  simp at this
  exact ⟨this.1.symm, this.2.symm⟩

/-- A register lies whole in its window (20_memory R64). -/
theorem offset_in_window (r : Reg) : r.offset.toNat + 4 ≤ r.unit.windowSize := by
  cases r with
  | tcsr c => revert c; decide
  | tlr c => revert c; decide
  | tcr c => revert c; decide
  | duty k => revert k; decide
  | _ => decide

/-- Every offset of the map is a multiple of 4 (20_memory R66). -/
theorem offset_aligned (r : Reg) : r.offset.toNat % 4 = 0 := by
  cases r with
  | tcsr c => revert c; decide
  | tlr c => revert c; decide
  | tcr c => revert c; decide
  | duty k => revert k; decide
  | _ => decide

/-! ### The cases of the decoder -/

/-- The decoder on an assembled word: only the issuer and the case on the kind are left. -/
theorem decode_ofFields (cfg : Config) (a : Agent) (k : Kind) (u : BitVec 4) (s : BitVec 8) (d : Word) :
    decode cfg a (Txn.ofFields k.code u s d)
      = if mayIssue a k then decodeKind cfg k u s d else .refuse .wrongIssuer := by
  simp [decode]

/-- What the decoder accepted: the kind, the issuer and the case that answered. -/
theorem decode_op {cfg : Config} {a : Agent} {T : Txn} {i : Instr} (h : decode cfg a T = .op i) :
    ∃ k : Kind, T.kindField = k.code ∧ T.rsv = 0 ∧ mayIssue a k = true
      ∧ decodeKind cfg k T.unitField T.sel T.data = .op i := by
  unfold decode at h
  split at h
  · cases h
  · rename_i k hk
    split at h
    · cases h
    · rename_i hr
      split at h
      · rename_i hi
        exact ⟨k, code_of_ofCode hk, by simpa using hr, hi, h⟩
      · cases h

/-- The RD case on a register of the map. -/
theorem decodeRd_reg (cfg : Config) (r : Reg) (d : Word) :
    decodeRd cfg r.unit.code r.offset d
      = match readOp cfg r with
        | .refuse e => .refuse e
        | .op i => if d = 0 then .op i else .refuse .reservedField := by
  simp only [decodeRd, if_neg (unit_code_lt r), regAt_unit_offset]
  all_goals (cases readOp cfg r <;> rfl)

/-- The WR case on a register of the map. -/
theorem decodeWr_reg (cfg : Config) (r : Reg) (d : Word) :
    decodeWr cfg r.unit.code r.offset d
      = match writeOp cfg d r with
        | .refuse e => .refuse e
        | .op i => if r.setsReserved cfg d then .refuse .reservedDataBits else .op i := by
  simp only [decodeWr, if_neg (unit_code_lt r), regAt_unit_offset]
  all_goals (cases writeOp cfg d r <;> rfl)

/-- What the RD case accepted. -/
theorem decodeRd_op {cfg : Config} {u : BitVec 4} {s : BitVec 8} {d : Word} {i : Instr}
    (h : decodeRd cfg u s d = .op i) :
    ∃ r : Reg, u = r.unit.code ∧ s = r.offset ∧ d = 0 ∧ readOp cfg r = .op i := by
  unfold decodeRd at h
  split at h
  · cases h
  · split at h
    · cases h
    · rename_i r hr
      split at h
      · cases h
      · rename_i j hj
        split at h
        · rename_i hd
          cases h
          exact ⟨r, (unit_offset_of_regAt hr).1, (unit_offset_of_regAt hr).2, hd, hj⟩
        · cases h

/-- What the WR case accepted. -/
theorem decodeWr_op {cfg : Config} {u : BitVec 4} {s : BitVec 8} {d : Word} {i : Instr}
    (h : decodeWr cfg u s d = .op i) :
    ∃ r : Reg, u = r.unit.code ∧ s = r.offset ∧ r.setsReserved cfg d = false ∧ writeOp cfg d r = .op i := by
  unfold decodeWr at h
  split at h
  · cases h
  · split at h
    · cases h
    · rename_i r hr
      split at h
      · cases h
      · rename_i j hj
        split at h
        · cases h
        · rename_i hd
          cases h
          exact ⟨r, (unit_offset_of_regAt hr).1, (unit_offset_of_regAt hr).2, by simpa using hd, hj⟩

/-- The decoder on the word of a RD, for the two agents that read. -/
theorem decode_encodeRd (cfg : Config) (a : Agent) (ha : a = .host ∨ a = .seq) (r : Reg) :
    decode cfg a (encodeRd r) = readOp cfg r := by
  unfold encodeRd
  rw [decode_ofFields, show mayIssue a .rd = true by rcases ha with rfl | rfl <;> rfl, if_pos rfl]
  show decodeRd _ _ _ _ = _
  rw [decodeRd_reg cfg r 0]
  all_goals (cases readOp cfg r <;> rfl)

/-- The decoder on the word of a WR, for the two agents that write. -/
theorem decode_encodeWr (cfg : Config) (a : Agent) (ha : a = .host ∨ a = .seq) (r : Reg) (d : Word) :
    decode cfg a (encodeWr r d)
      = match writeOp cfg d r with
        | .refuse e => .refuse e
        | .op i => if r.setsReserved cfg d then .refuse .reservedDataBits else .op i := by
  unfold encodeWr
  rw [decode_ofFields, show mayIssue a .wr = true by rcases ha with rfl | rfl <;> rfl, if_pos rfl]
  exact decodeWr_reg cfg r d

/-- One reserved bit at 1 is enough for the refusal (10_state R23). -/
theorem setsReserved_of_bit (cfg : Config) (r : Reg) (d : Word) (j : Fin 32) (hd : d.getLsbD j.val = true)
    (hr : (r.writableBits cfg).getLsbD j.val = false) : r.setsReserved cfg d = true := by
  rw [Reg.setsReserved, bne_iff_ne]
  intro e
  have h := congrArg (fun x => x.getLsbD j.val) e
  simp only [BitVec.getLsbD_and, BitVec.getLsbD_not, hd, hr, j.isLt] at h
  simp at h

end Sys2Proof
end

