-- ==== Sys2Proof/Laws/State.lean ====
section
/-! SUPPORT. One lemma per field per named update of State, each true by rfl, so that no proof unfolds a record update. -/

namespace Sys2Proof.Machine

/-! ### respond -/

@[simp] theorem State.respond_cfg (s : State) (w : Word) : (s.respond w).cfg = s.cfg := rfl
@[simp] theorem State.respond_gpioInTri (s : State) (w : Word) : (s.respond w).gpioInTri = s.gpioInTri := rfl
@[simp] theorem State.respond_triWrittenIn (s : State) (w : Word) : (s.respond w).triWrittenIn = s.triWrittenIn := rfl
@[simp] theorem State.respond_gpioOutData (s : State) (w : Word) : (s.respond w).gpioOutData = s.gpioOutData := rfl
@[simp] theorem State.respond_gpioOutTri (s : State) (w : Word) : (s.respond w).gpioOutTri = s.gpioOutTri := rfl
@[simp] theorem State.respond_triWrittenOut (s : State) (w : Word) : (s.respond w).triWrittenOut = s.triWrittenOut := rfl
@[simp] theorem State.respond_timers (s : State) (w : Word) : (s.respond w).timers = s.timers := rfl
@[simp] theorem State.respond_isr (s : State) (w : Word) : (s.respond w).isr = s.isr := rfl
@[simp] theorem State.respond_ier (s : State) (w : Word) : (s.respond w).ier = s.ier := rfl
@[simp] theorem State.respond_me (s : State) (w : Word) : (s.respond w).me = s.me := rfl
@[simp] theorem State.respond_hie (s : State) (w : Word) : (s.respond w).hie = s.hie := rfl
@[simp] theorem State.respond_db (s : State) (w : Word) : (s.respond w).db = s.db := rfl
@[simp] theorem State.respond_phase (s : State) (w : Word) : (s.respond w).phase = s.phase := rfl
@[simp] theorem State.respond_blink (s : State) (w : Word) : (s.respond w).blink = s.blink := rfl
@[simp] theorem State.respond_duty (s : State) (w : Word) : (s.respond w).duty = s.duty := rfl
@[simp] theorem State.respond_seq (s : State) (w : Word) : (s.respond w).seq = s.seq := rfl
@[simp] theorem State.respond_v (s : State) (w : Word) : (s.respond w).v = s.v := rfl
@[simp] theorem State.respond_hostIE (s : State) (w : Word) : (s.respond w).hostIE = s.hostIE := rfl
@[simp] theorem State.respond_faults (s : State) (w : Word) : (s.respond w).faults = s.faults := rfl
@[simp] theorem State.respond_refused (s : State) (w : Word) : (s.respond w).refused = s.refused := rfl
@[simp] theorem State.respond_expired (s : State) (w : Word) : (s.respond w).expired = s.expired := rfl
@[simp] theorem State.respond_merged (s : State) (w : Word) : (s.respond w).merged = s.merged := rfl
@[simp] theorem State.respond_steps (s : State) (w : Word) : (s.respond w).steps = s.steps := rfl
@[simp] theorem State.respond_issuer (s : State) (w : Word) : (s.respond w).issuer = s.issuer := rfl
@[simp] theorem State.respond_resp (s : State) (w : Word) : (s.respond w).resp = .value w := rfl
@[simp] theorem State.respond_draws (s : State) (w : Word) : (s.respond w).draws = s.draws := rfl
@[simp] theorem State.respond_inputs (s : State) (w : Word) : (s.respond w).inputs = s.inputs := rfl

/-! ### complete -/

@[simp] theorem State.complete_cfg (s : State) : (s.complete).cfg = s.cfg := rfl
@[simp] theorem State.complete_gpioInTri (s : State) : (s.complete).gpioInTri = s.gpioInTri := rfl
@[simp] theorem State.complete_triWrittenIn (s : State) : (s.complete).triWrittenIn = s.triWrittenIn := rfl
@[simp] theorem State.complete_gpioOutData (s : State) : (s.complete).gpioOutData = s.gpioOutData := rfl
@[simp] theorem State.complete_gpioOutTri (s : State) : (s.complete).gpioOutTri = s.gpioOutTri := rfl
@[simp] theorem State.complete_triWrittenOut (s : State) : (s.complete).triWrittenOut = s.triWrittenOut := rfl
@[simp] theorem State.complete_timers (s : State) : (s.complete).timers = s.timers := rfl
@[simp] theorem State.complete_isr (s : State) : (s.complete).isr = s.isr := rfl
@[simp] theorem State.complete_ier (s : State) : (s.complete).ier = s.ier := rfl
@[simp] theorem State.complete_me (s : State) : (s.complete).me = s.me := rfl
@[simp] theorem State.complete_hie (s : State) : (s.complete).hie = s.hie := rfl
@[simp] theorem State.complete_db (s : State) : (s.complete).db = s.db := rfl
@[simp] theorem State.complete_phase (s : State) : (s.complete).phase = s.phase := rfl
@[simp] theorem State.complete_blink (s : State) : (s.complete).blink = s.blink := rfl
@[simp] theorem State.complete_duty (s : State) : (s.complete).duty = s.duty := rfl
@[simp] theorem State.complete_seq (s : State) : (s.complete).seq = s.seq := rfl
@[simp] theorem State.complete_v (s : State) : (s.complete).v = s.v := rfl
@[simp] theorem State.complete_hostIE (s : State) : (s.complete).hostIE = s.hostIE := rfl
@[simp] theorem State.complete_faults (s : State) : (s.complete).faults = s.faults := rfl
@[simp] theorem State.complete_refused (s : State) : (s.complete).refused = s.refused := rfl
@[simp] theorem State.complete_expired (s : State) : (s.complete).expired = s.expired := rfl
@[simp] theorem State.complete_merged (s : State) : (s.complete).merged = s.merged := rfl
@[simp] theorem State.complete_steps (s : State) : (s.complete).steps = s.steps := rfl
@[simp] theorem State.complete_issuer (s : State) : (s.complete).issuer = s.issuer := rfl
@[simp] theorem State.complete_resp (s : State) : (s.complete).resp = .silent := rfl
@[simp] theorem State.complete_draws (s : State) : (s.complete).draws = s.draws := rfl
@[simp] theorem State.complete_inputs (s : State) : (s.complete).inputs = s.inputs := rfl

/-! ### refuse -/

@[simp] theorem State.refuse_cfg (s : State) (r : RefuseReason) : (s.refuse r).cfg = s.cfg := rfl
@[simp] theorem State.refuse_gpioInTri (s : State) (r : RefuseReason) : (s.refuse r).gpioInTri = s.gpioInTri := rfl
@[simp] theorem State.refuse_triWrittenIn (s : State) (r : RefuseReason) : (s.refuse r).triWrittenIn = s.triWrittenIn := rfl
@[simp] theorem State.refuse_gpioOutData (s : State) (r : RefuseReason) : (s.refuse r).gpioOutData = s.gpioOutData := rfl
@[simp] theorem State.refuse_gpioOutTri (s : State) (r : RefuseReason) : (s.refuse r).gpioOutTri = s.gpioOutTri := rfl
@[simp] theorem State.refuse_triWrittenOut (s : State) (r : RefuseReason) : (s.refuse r).triWrittenOut = s.triWrittenOut := rfl
@[simp] theorem State.refuse_timers (s : State) (r : RefuseReason) : (s.refuse r).timers = s.timers := rfl
@[simp] theorem State.refuse_isr (s : State) (r : RefuseReason) : (s.refuse r).isr = s.isr := rfl
@[simp] theorem State.refuse_ier (s : State) (r : RefuseReason) : (s.refuse r).ier = s.ier := rfl
@[simp] theorem State.refuse_me (s : State) (r : RefuseReason) : (s.refuse r).me = s.me := rfl
@[simp] theorem State.refuse_hie (s : State) (r : RefuseReason) : (s.refuse r).hie = s.hie := rfl
@[simp] theorem State.refuse_db (s : State) (r : RefuseReason) : (s.refuse r).db = s.db := rfl
@[simp] theorem State.refuse_phase (s : State) (r : RefuseReason) : (s.refuse r).phase = s.phase := rfl
@[simp] theorem State.refuse_blink (s : State) (r : RefuseReason) : (s.refuse r).blink = s.blink := rfl
@[simp] theorem State.refuse_duty (s : State) (r : RefuseReason) : (s.refuse r).duty = s.duty := rfl
@[simp] theorem State.refuse_seq (s : State) (r : RefuseReason) : (s.refuse r).seq = s.seq := rfl
@[simp] theorem State.refuse_v (s : State) (r : RefuseReason) : (s.refuse r).v = s.v := rfl
@[simp] theorem State.refuse_hostIE (s : State) (r : RefuseReason) : (s.refuse r).hostIE = s.hostIE := rfl
@[simp] theorem State.refuse_faults (s : State) (r : RefuseReason) : (s.refuse r).faults = s.faults := rfl
@[simp] theorem State.refuse_refused (s : State) (r : RefuseReason) : (s.refuse r).refused = true := rfl
@[simp] theorem State.refuse_expired (s : State) (r : RefuseReason) : (s.refuse r).expired = s.expired := rfl
@[simp] theorem State.refuse_merged (s : State) (r : RefuseReason) : (s.refuse r).merged = s.merged := rfl
@[simp] theorem State.refuse_steps (s : State) (r : RefuseReason) : (s.refuse r).steps = s.steps := rfl
@[simp] theorem State.refuse_issuer (s : State) (r : RefuseReason) : (s.refuse r).issuer = s.issuer := rfl
@[simp] theorem State.refuse_resp (s : State) (r : RefuseReason) : (s.refuse r).resp = .refused r := rfl
@[simp] theorem State.refuse_draws (s : State) (r : RefuseReason) : (s.refuse r).draws = s.draws := rfl
@[simp] theorem State.refuse_inputs (s : State) (r : RefuseReason) : (s.refuse r).inputs = s.inputs := rfl

/-! ### raiseFault -/

@[simp] theorem State.raiseFault_cfg (s : State) (code : FaultCode) (i : Instr) : (s.raiseFault code i).cfg = s.cfg := rfl
@[simp] theorem State.raiseFault_gpioInTri (s : State) (code : FaultCode) (i : Instr) : (s.raiseFault code i).gpioInTri = s.gpioInTri := rfl
@[simp] theorem State.raiseFault_triWrittenIn (s : State) (code : FaultCode) (i : Instr) : (s.raiseFault code i).triWrittenIn = s.triWrittenIn := rfl
@[simp] theorem State.raiseFault_gpioOutData (s : State) (code : FaultCode) (i : Instr) : (s.raiseFault code i).gpioOutData = s.gpioOutData := rfl
@[simp] theorem State.raiseFault_gpioOutTri (s : State) (code : FaultCode) (i : Instr) : (s.raiseFault code i).gpioOutTri = s.gpioOutTri := rfl
@[simp] theorem State.raiseFault_triWrittenOut (s : State) (code : FaultCode) (i : Instr) : (s.raiseFault code i).triWrittenOut = s.triWrittenOut := rfl
@[simp] theorem State.raiseFault_timers (s : State) (code : FaultCode) (i : Instr) : (s.raiseFault code i).timers = s.timers := rfl
@[simp] theorem State.raiseFault_isr (s : State) (code : FaultCode) (i : Instr) : (s.raiseFault code i).isr = s.isr := rfl
@[simp] theorem State.raiseFault_ier (s : State) (code : FaultCode) (i : Instr) : (s.raiseFault code i).ier = s.ier := rfl
@[simp] theorem State.raiseFault_me (s : State) (code : FaultCode) (i : Instr) : (s.raiseFault code i).me = s.me := rfl
@[simp] theorem State.raiseFault_hie (s : State) (code : FaultCode) (i : Instr) : (s.raiseFault code i).hie = s.hie := rfl
@[simp] theorem State.raiseFault_db (s : State) (code : FaultCode) (i : Instr) : (s.raiseFault code i).db = s.db := rfl
@[simp] theorem State.raiseFault_phase (s : State) (code : FaultCode) (i : Instr) : (s.raiseFault code i).phase = s.phase := rfl
@[simp] theorem State.raiseFault_blink (s : State) (code : FaultCode) (i : Instr) : (s.raiseFault code i).blink = s.blink := rfl
@[simp] theorem State.raiseFault_duty (s : State) (code : FaultCode) (i : Instr) : (s.raiseFault code i).duty = s.duty := rfl
@[simp] theorem State.raiseFault_seq (s : State) (code : FaultCode) (i : Instr) : (s.raiseFault code i).seq = s.seq := rfl
@[simp] theorem State.raiseFault_v (s : State) (code : FaultCode) (i : Instr) : (s.raiseFault code i).v = s.v := rfl
@[simp] theorem State.raiseFault_hostIE (s : State) (code : FaultCode) (i : Instr) : (s.raiseFault code i).hostIE = s.hostIE := rfl
@[simp] theorem State.raiseFault_faults (s : State) (code : FaultCode) (i : Instr) : (s.raiseFault code i).faults = s.faults ++ [{ code := code, word := encode i, issuer := s.issuer, n := s.steps }] := rfl
@[simp] theorem State.raiseFault_refused (s : State) (code : FaultCode) (i : Instr) : (s.raiseFault code i).refused = s.refused := rfl
@[simp] theorem State.raiseFault_expired (s : State) (code : FaultCode) (i : Instr) : (s.raiseFault code i).expired = s.expired := rfl
@[simp] theorem State.raiseFault_merged (s : State) (code : FaultCode) (i : Instr) : (s.raiseFault code i).merged = s.merged := rfl
@[simp] theorem State.raiseFault_steps (s : State) (code : FaultCode) (i : Instr) : (s.raiseFault code i).steps = s.steps := rfl
@[simp] theorem State.raiseFault_issuer (s : State) (code : FaultCode) (i : Instr) : (s.raiseFault code i).issuer = s.issuer := rfl
@[simp] theorem State.raiseFault_resp (s : State) (code : FaultCode) (i : Instr) : (s.raiseFault code i).resp = .faulted code := rfl
@[simp] theorem State.raiseFault_draws (s : State) (code : FaultCode) (i : Instr) : (s.raiseFault code i).draws = s.draws := rfl
@[simp] theorem State.raiseFault_inputs (s : State) (code : FaultCode) (i : Instr) : (s.raiseFault code i).inputs = s.inputs := rfl

/-! ### setTimer -/

@[simp] theorem State.setTimer_cfg (s : State) (c : Fin 2) (t : Timer) : (s.setTimer c t).cfg = s.cfg := rfl
@[simp] theorem State.setTimer_gpioInTri (s : State) (c : Fin 2) (t : Timer) : (s.setTimer c t).gpioInTri = s.gpioInTri := rfl
@[simp] theorem State.setTimer_triWrittenIn (s : State) (c : Fin 2) (t : Timer) : (s.setTimer c t).triWrittenIn = s.triWrittenIn := rfl
@[simp] theorem State.setTimer_gpioOutData (s : State) (c : Fin 2) (t : Timer) : (s.setTimer c t).gpioOutData = s.gpioOutData := rfl
@[simp] theorem State.setTimer_gpioOutTri (s : State) (c : Fin 2) (t : Timer) : (s.setTimer c t).gpioOutTri = s.gpioOutTri := rfl
@[simp] theorem State.setTimer_triWrittenOut (s : State) (c : Fin 2) (t : Timer) : (s.setTimer c t).triWrittenOut = s.triWrittenOut := rfl
@[simp] theorem State.setTimer_timers (s : State) (c : Fin 2) (t : Timer) : (s.setTimer c t).timers = s.timers.set c t := rfl
@[simp] theorem State.setTimer_isr (s : State) (c : Fin 2) (t : Timer) : (s.setTimer c t).isr = s.isr := rfl
@[simp] theorem State.setTimer_ier (s : State) (c : Fin 2) (t : Timer) : (s.setTimer c t).ier = s.ier := rfl
@[simp] theorem State.setTimer_me (s : State) (c : Fin 2) (t : Timer) : (s.setTimer c t).me = s.me := rfl
@[simp] theorem State.setTimer_hie (s : State) (c : Fin 2) (t : Timer) : (s.setTimer c t).hie = s.hie := rfl
@[simp] theorem State.setTimer_db (s : State) (c : Fin 2) (t : Timer) : (s.setTimer c t).db = s.db := rfl
@[simp] theorem State.setTimer_phase (s : State) (c : Fin 2) (t : Timer) : (s.setTimer c t).phase = s.phase := rfl
@[simp] theorem State.setTimer_blink (s : State) (c : Fin 2) (t : Timer) : (s.setTimer c t).blink = s.blink := rfl
@[simp] theorem State.setTimer_duty (s : State) (c : Fin 2) (t : Timer) : (s.setTimer c t).duty = s.duty := rfl
@[simp] theorem State.setTimer_seq (s : State) (c : Fin 2) (t : Timer) : (s.setTimer c t).seq = s.seq := rfl
@[simp] theorem State.setTimer_v (s : State) (c : Fin 2) (t : Timer) : (s.setTimer c t).v = s.v := rfl
@[simp] theorem State.setTimer_hostIE (s : State) (c : Fin 2) (t : Timer) : (s.setTimer c t).hostIE = s.hostIE := rfl
@[simp] theorem State.setTimer_faults (s : State) (c : Fin 2) (t : Timer) : (s.setTimer c t).faults = s.faults := rfl
@[simp] theorem State.setTimer_refused (s : State) (c : Fin 2) (t : Timer) : (s.setTimer c t).refused = s.refused := rfl
@[simp] theorem State.setTimer_expired (s : State) (c : Fin 2) (t : Timer) : (s.setTimer c t).expired = s.expired := rfl
@[simp] theorem State.setTimer_merged (s : State) (c : Fin 2) (t : Timer) : (s.setTimer c t).merged = s.merged := rfl
@[simp] theorem State.setTimer_steps (s : State) (c : Fin 2) (t : Timer) : (s.setTimer c t).steps = s.steps := rfl
@[simp] theorem State.setTimer_issuer (s : State) (c : Fin 2) (t : Timer) : (s.setTimer c t).issuer = s.issuer := rfl
@[simp] theorem State.setTimer_resp (s : State) (c : Fin 2) (t : Timer) : (s.setTimer c t).resp = s.resp := rfl
@[simp] theorem State.setTimer_draws (s : State) (c : Fin 2) (t : Timer) : (s.setTimer c t).draws = s.draws := rfl
@[simp] theorem State.setTimer_inputs (s : State) (c : Fin 2) (t : Timer) : (s.setTimer c t).inputs = s.inputs := rfl

/-! ### latch -/

@[simp] theorem State.latch_cfg (s : State) : (s.latch).cfg = s.cfg := rfl
@[simp] theorem State.latch_gpioInTri (s : State) : (s.latch).gpioInTri = s.gpioInTri := rfl
@[simp] theorem State.latch_triWrittenIn (s : State) : (s.latch).triWrittenIn = s.triWrittenIn := rfl
@[simp] theorem State.latch_gpioOutData (s : State) : (s.latch).gpioOutData = s.gpioOutData := rfl
@[simp] theorem State.latch_gpioOutTri (s : State) : (s.latch).gpioOutTri = s.gpioOutTri := rfl
@[simp] theorem State.latch_triWrittenOut (s : State) : (s.latch).triWrittenOut = s.triWrittenOut := rfl
@[simp] theorem State.latch_timers (s : State) : (s.latch).timers = s.timers := rfl
@[simp] theorem State.latch_isr (s : State) : (s.latch).isr = (s.isr || (s.hie && s.tmrIrq)) := rfl
@[simp] theorem State.latch_ier (s : State) : (s.latch).ier = s.ier := rfl
@[simp] theorem State.latch_me (s : State) : (s.latch).me = s.me := rfl
@[simp] theorem State.latch_hie (s : State) : (s.latch).hie = s.hie := rfl
@[simp] theorem State.latch_db (s : State) : (s.latch).db = s.db := rfl
@[simp] theorem State.latch_phase (s : State) : (s.latch).phase = s.phase := rfl
@[simp] theorem State.latch_blink (s : State) : (s.latch).blink = s.blink := rfl
@[simp] theorem State.latch_duty (s : State) : (s.latch).duty = s.duty := rfl
@[simp] theorem State.latch_seq (s : State) : (s.latch).seq = s.seq := rfl
@[simp] theorem State.latch_v (s : State) : (s.latch).v = s.v := rfl
@[simp] theorem State.latch_hostIE (s : State) : (s.latch).hostIE = s.hostIE := rfl
@[simp] theorem State.latch_faults (s : State) : (s.latch).faults = s.faults := rfl
@[simp] theorem State.latch_refused (s : State) : (s.latch).refused = s.refused := rfl
@[simp] theorem State.latch_expired (s : State) : (s.latch).expired = s.expired := rfl
@[simp] theorem State.latch_merged (s : State) : (s.latch).merged = s.merged := rfl
@[simp] theorem State.latch_steps (s : State) : (s.latch).steps = s.steps := rfl
@[simp] theorem State.latch_issuer (s : State) : (s.latch).issuer = s.issuer := rfl
@[simp] theorem State.latch_resp (s : State) : (s.latch).resp = s.resp := rfl
@[simp] theorem State.latch_draws (s : State) : (s.latch).draws = s.draws := rfl
@[simp] theorem State.latch_inputs (s : State) : (s.latch).inputs = s.inputs := rfl

/-! ### endStep -/

@[simp] theorem State.endStep_cfg (s : State) : (s.endStep).cfg = s.cfg := rfl
@[simp] theorem State.endStep_gpioInTri (s : State) : (s.endStep).gpioInTri = s.gpioInTri := rfl
@[simp] theorem State.endStep_triWrittenIn (s : State) : (s.endStep).triWrittenIn = s.triWrittenIn := rfl
@[simp] theorem State.endStep_gpioOutData (s : State) : (s.endStep).gpioOutData = s.gpioOutData := rfl
@[simp] theorem State.endStep_gpioOutTri (s : State) : (s.endStep).gpioOutTri = s.gpioOutTri := rfl
@[simp] theorem State.endStep_triWrittenOut (s : State) : (s.endStep).triWrittenOut = s.triWrittenOut := rfl
@[simp] theorem State.endStep_timers (s : State) : (s.endStep).timers = s.timers := rfl
@[simp] theorem State.endStep_isr (s : State) : (s.endStep).isr = (s.isr || (s.hie && s.tmrIrq)) := rfl
@[simp] theorem State.endStep_ier (s : State) : (s.endStep).ier = s.ier := rfl
@[simp] theorem State.endStep_me (s : State) : (s.endStep).me = s.me := rfl
@[simp] theorem State.endStep_hie (s : State) : (s.endStep).hie = s.hie := rfl
@[simp] theorem State.endStep_db (s : State) : (s.endStep).db = s.db := rfl
@[simp] theorem State.endStep_phase (s : State) : (s.endStep).phase = s.phase := rfl
@[simp] theorem State.endStep_blink (s : State) : (s.endStep).blink = s.blink := rfl
@[simp] theorem State.endStep_duty (s : State) : (s.endStep).duty = s.duty := rfl
@[simp] theorem State.endStep_seq (s : State) : (s.endStep).seq = s.seq := rfl
@[simp] theorem State.endStep_v (s : State) : (s.endStep).v = s.v := rfl
@[simp] theorem State.endStep_hostIE (s : State) : (s.endStep).hostIE = s.hostIE := rfl
@[simp] theorem State.endStep_faults (s : State) : (s.endStep).faults = s.faults := rfl
@[simp] theorem State.endStep_refused (s : State) : (s.endStep).refused = s.refused := rfl
@[simp] theorem State.endStep_expired (s : State) : (s.endStep).expired = s.expired := rfl
@[simp] theorem State.endStep_merged (s : State) : (s.endStep).merged = s.merged := rfl
@[simp] theorem State.endStep_steps (s : State) : (s.endStep).steps = s.steps + 1 := rfl
@[simp] theorem State.endStep_issuer (s : State) : (s.endStep).issuer = s.issuer := rfl
@[simp] theorem State.endStep_resp (s : State) : (s.endStep).resp = s.resp := rfl
@[simp] theorem State.endStep_draws (s : State) : (s.endStep).draws = s.draws := rfl
@[simp] theorem State.endStep_inputs (s : State) : (s.endStep).inputs = s.inputs := rfl

/-! ### nextDraw -/

@[simp] theorem State.nextDraw_cfg (s : State) : (s.nextDraw).cfg = s.cfg := rfl
@[simp] theorem State.nextDraw_gpioInTri (s : State) : (s.nextDraw).gpioInTri = s.gpioInTri := rfl
@[simp] theorem State.nextDraw_triWrittenIn (s : State) : (s.nextDraw).triWrittenIn = s.triWrittenIn := rfl
@[simp] theorem State.nextDraw_gpioOutData (s : State) : (s.nextDraw).gpioOutData = s.gpioOutData := rfl
@[simp] theorem State.nextDraw_gpioOutTri (s : State) : (s.nextDraw).gpioOutTri = s.gpioOutTri := rfl
@[simp] theorem State.nextDraw_triWrittenOut (s : State) : (s.nextDraw).triWrittenOut = s.triWrittenOut := rfl
@[simp] theorem State.nextDraw_timers (s : State) : (s.nextDraw).timers = s.timers := rfl
@[simp] theorem State.nextDraw_isr (s : State) : (s.nextDraw).isr = s.isr := rfl
@[simp] theorem State.nextDraw_ier (s : State) : (s.nextDraw).ier = s.ier := rfl
@[simp] theorem State.nextDraw_me (s : State) : (s.nextDraw).me = s.me := rfl
@[simp] theorem State.nextDraw_hie (s : State) : (s.nextDraw).hie = s.hie := rfl
@[simp] theorem State.nextDraw_db (s : State) : (s.nextDraw).db = s.db := rfl
@[simp] theorem State.nextDraw_phase (s : State) : (s.nextDraw).phase = s.phase := rfl
@[simp] theorem State.nextDraw_blink (s : State) : (s.nextDraw).blink = s.blink := rfl
@[simp] theorem State.nextDraw_duty (s : State) : (s.nextDraw).duty = s.duty := rfl
@[simp] theorem State.nextDraw_seq (s : State) : (s.nextDraw).seq = s.seq := rfl
@[simp] theorem State.nextDraw_v (s : State) : (s.nextDraw).v = s.v := rfl
@[simp] theorem State.nextDraw_hostIE (s : State) : (s.nextDraw).hostIE = s.hostIE := rfl
@[simp] theorem State.nextDraw_faults (s : State) : (s.nextDraw).faults = s.faults := rfl
@[simp] theorem State.nextDraw_refused (s : State) : (s.nextDraw).refused = s.refused := rfl
@[simp] theorem State.nextDraw_expired (s : State) : (s.nextDraw).expired = s.expired := rfl
@[simp] theorem State.nextDraw_merged (s : State) : (s.nextDraw).merged = s.merged := rfl
@[simp] theorem State.nextDraw_steps (s : State) : (s.nextDraw).steps = s.steps := rfl
@[simp] theorem State.nextDraw_issuer (s : State) : (s.nextDraw).issuer = s.issuer := rfl
@[simp] theorem State.nextDraw_resp (s : State) : (s.nextDraw).resp = s.resp := rfl
@[simp] theorem State.nextDraw_draws (s : State) : (s.nextDraw).draws = s.draws + 1 := rfl
@[simp] theorem State.nextDraw_inputs (s : State) : (s.nextDraw).inputs = s.inputs := rfl

/-! ### enterHandler -/

@[simp] theorem State.enterHandler_cfg (s : State) : (s.enterHandler).cfg = s.cfg := rfl
@[simp] theorem State.enterHandler_gpioInTri (s : State) : (s.enterHandler).gpioInTri = s.gpioInTri := rfl
@[simp] theorem State.enterHandler_triWrittenIn (s : State) : (s.enterHandler).triWrittenIn = s.triWrittenIn := rfl
@[simp] theorem State.enterHandler_gpioOutData (s : State) : (s.enterHandler).gpioOutData = s.gpioOutData := rfl
@[simp] theorem State.enterHandler_gpioOutTri (s : State) : (s.enterHandler).gpioOutTri = s.gpioOutTri := rfl
@[simp] theorem State.enterHandler_triWrittenOut (s : State) : (s.enterHandler).triWrittenOut = s.triWrittenOut := rfl
@[simp] theorem State.enterHandler_timers (s : State) : (s.enterHandler).timers = s.timers := rfl
@[simp] theorem State.enterHandler_isr (s : State) : (s.enterHandler).isr = s.isr := rfl
@[simp] theorem State.enterHandler_ier (s : State) : (s.enterHandler).ier = s.ier := rfl
@[simp] theorem State.enterHandler_me (s : State) : (s.enterHandler).me = s.me := rfl
@[simp] theorem State.enterHandler_hie (s : State) : (s.enterHandler).hie = s.hie := rfl
@[simp] theorem State.enterHandler_db (s : State) : (s.enterHandler).db = s.db := rfl
@[simp] theorem State.enterHandler_phase (s : State) : (s.enterHandler).phase = s.phase := rfl
@[simp] theorem State.enterHandler_blink (s : State) : (s.enterHandler).blink = s.blink := rfl
@[simp] theorem State.enterHandler_duty (s : State) : (s.enterHandler).duty = s.duty := rfl
@[simp] theorem State.enterHandler_seq (s : State) : (s.enterHandler).seq = .rd 0 := rfl
@[simp] theorem State.enterHandler_v (s : State) : (s.enterHandler).v = s.v := rfl
@[simp] theorem State.enterHandler_hostIE (s : State) : (s.enterHandler).hostIE = s.hostIE := rfl
@[simp] theorem State.enterHandler_faults (s : State) : (s.enterHandler).faults = s.faults := rfl
@[simp] theorem State.enterHandler_refused (s : State) : (s.enterHandler).refused = s.refused := rfl
@[simp] theorem State.enterHandler_expired (s : State) : (s.enterHandler).expired = s.expired := rfl
@[simp] theorem State.enterHandler_merged (s : State) : (s.enterHandler).merged = s.merged := rfl
@[simp] theorem State.enterHandler_steps (s : State) : (s.enterHandler).steps = s.steps := rfl
@[simp] theorem State.enterHandler_issuer (s : State) : (s.enterHandler).issuer = s.issuer := rfl
@[simp] theorem State.enterHandler_resp (s : State) : (s.enterHandler).resp = .silent := rfl
@[simp] theorem State.enterHandler_draws (s : State) : (s.enterHandler).draws = s.draws := rfl
@[simp] theorem State.enterHandler_inputs (s : State) : (s.enterHandler).inputs = s.inputs := rfl

/-! ### returnFromHandler -/

@[simp] theorem State.returnFromHandler_cfg (s : State) : (s.returnFromHandler).cfg = s.cfg := rfl
@[simp] theorem State.returnFromHandler_gpioInTri (s : State) : (s.returnFromHandler).gpioInTri = s.gpioInTri := rfl
@[simp] theorem State.returnFromHandler_triWrittenIn (s : State) : (s.returnFromHandler).triWrittenIn = s.triWrittenIn := rfl
@[simp] theorem State.returnFromHandler_gpioOutData (s : State) : (s.returnFromHandler).gpioOutData = s.gpioOutData := rfl
@[simp] theorem State.returnFromHandler_gpioOutTri (s : State) : (s.returnFromHandler).gpioOutTri = s.gpioOutTri := rfl
@[simp] theorem State.returnFromHandler_triWrittenOut (s : State) : (s.returnFromHandler).triWrittenOut = s.triWrittenOut := rfl
@[simp] theorem State.returnFromHandler_timers (s : State) : (s.returnFromHandler).timers = s.timers := rfl
@[simp] theorem State.returnFromHandler_isr (s : State) : (s.returnFromHandler).isr = s.isr := rfl
@[simp] theorem State.returnFromHandler_ier (s : State) : (s.returnFromHandler).ier = s.ier := rfl
@[simp] theorem State.returnFromHandler_me (s : State) : (s.returnFromHandler).me = s.me := rfl
@[simp] theorem State.returnFromHandler_hie (s : State) : (s.returnFromHandler).hie = s.hie := rfl
@[simp] theorem State.returnFromHandler_db (s : State) : (s.returnFromHandler).db = s.db := rfl
@[simp] theorem State.returnFromHandler_phase (s : State) : (s.returnFromHandler).phase = s.phase := rfl
@[simp] theorem State.returnFromHandler_blink (s : State) : (s.returnFromHandler).blink = s.blink := rfl
@[simp] theorem State.returnFromHandler_duty (s : State) : (s.returnFromHandler).duty = s.duty := rfl
@[simp] theorem State.returnFromHandler_seq (s : State) : (s.returnFromHandler).seq = .idle := rfl
@[simp] theorem State.returnFromHandler_v (s : State) : (s.returnFromHandler).v = s.v := rfl
@[simp] theorem State.returnFromHandler_hostIE (s : State) : (s.returnFromHandler).hostIE = s.hostIE := rfl
@[simp] theorem State.returnFromHandler_faults (s : State) : (s.returnFromHandler).faults = s.faults := rfl
@[simp] theorem State.returnFromHandler_refused (s : State) : (s.returnFromHandler).refused = s.refused := rfl
@[simp] theorem State.returnFromHandler_expired (s : State) : (s.returnFromHandler).expired = s.expired := rfl
@[simp] theorem State.returnFromHandler_merged (s : State) : (s.returnFromHandler).merged = s.merged := rfl
@[simp] theorem State.returnFromHandler_steps (s : State) : (s.returnFromHandler).steps = s.steps := rfl
@[simp] theorem State.returnFromHandler_issuer (s : State) : (s.returnFromHandler).issuer = s.issuer := rfl
@[simp] theorem State.returnFromHandler_resp (s : State) : (s.returnFromHandler).resp = .silent := rfl
@[simp] theorem State.returnFromHandler_draws (s : State) : (s.returnFromHandler).draws = s.draws := rfl
@[simp] theorem State.returnFromHandler_inputs (s : State) : (s.returnFromHandler).inputs = s.inputs := rfl

/-! ### popInput -/

@[simp] theorem State.popInput_cfg (s : State) : (s.popInput).cfg = s.cfg := rfl
@[simp] theorem State.popInput_gpioInTri (s : State) : (s.popInput).gpioInTri = s.gpioInTri := rfl
@[simp] theorem State.popInput_triWrittenIn (s : State) : (s.popInput).triWrittenIn = s.triWrittenIn := rfl
@[simp] theorem State.popInput_gpioOutData (s : State) : (s.popInput).gpioOutData = s.gpioOutData := rfl
@[simp] theorem State.popInput_gpioOutTri (s : State) : (s.popInput).gpioOutTri = s.gpioOutTri := rfl
@[simp] theorem State.popInput_triWrittenOut (s : State) : (s.popInput).triWrittenOut = s.triWrittenOut := rfl
@[simp] theorem State.popInput_timers (s : State) : (s.popInput).timers = s.timers := rfl
@[simp] theorem State.popInput_isr (s : State) : (s.popInput).isr = s.isr := rfl
@[simp] theorem State.popInput_ier (s : State) : (s.popInput).ier = s.ier := rfl
@[simp] theorem State.popInput_me (s : State) : (s.popInput).me = s.me := rfl
@[simp] theorem State.popInput_hie (s : State) : (s.popInput).hie = s.hie := rfl
@[simp] theorem State.popInput_db (s : State) : (s.popInput).db = s.db := rfl
@[simp] theorem State.popInput_phase (s : State) : (s.popInput).phase = s.phase := rfl
@[simp] theorem State.popInput_blink (s : State) : (s.popInput).blink = s.blink := rfl
@[simp] theorem State.popInput_duty (s : State) : (s.popInput).duty = s.duty := rfl
@[simp] theorem State.popInput_seq (s : State) : (s.popInput).seq = s.seq := rfl
@[simp] theorem State.popInput_v (s : State) : (s.popInput).v = s.v := rfl
@[simp] theorem State.popInput_hostIE (s : State) : (s.popInput).hostIE = s.hostIE := rfl
@[simp] theorem State.popInput_faults (s : State) : (s.popInput).faults = s.faults := rfl
@[simp] theorem State.popInput_refused (s : State) : (s.popInput).refused = s.refused := rfl
@[simp] theorem State.popInput_expired (s : State) : (s.popInput).expired = s.expired := rfl
@[simp] theorem State.popInput_merged (s : State) : (s.popInput).merged = s.merged := rfl
@[simp] theorem State.popInput_steps (s : State) : (s.popInput).steps = s.steps := rfl
@[simp] theorem State.popInput_issuer (s : State) : (s.popInput).issuer = s.issuer := rfl
@[simp] theorem State.popInput_resp (s : State) : (s.popInput).resp = s.resp := rfl
@[simp] theorem State.popInput_draws (s : State) : (s.popInput).draws = s.draws := rfl
@[simp] theorem State.popInput_inputs (s : State) : (s.popInput).inputs = (s.pickInput s.inputs).2 := rfl

end Sys2Proof.Machine
end

