-- ==== Sys2Proof/Laws/Exec.lean ====
section
/-! SUPPORT. What every meaning has in common, said once: it answers a next state, and it leaves the configuration, the
bookkeeping of the step and, RESET apart, the sequencer alone. -/

namespace Sys2Proof.Machine

/-! ### Shared operations on the timer channels -/

@[simp] theorem State.writeTcsr_timers (s : State) (c : Fin 2) (d : Word) :
    (s.writeTcsr c d).timers = s.timers.set c (s.timers[c].writeTcsr d) := rfl

@[simp] theorem State.expire_timers (s : State) (c : Fin 2) :
    (s.expire c).timers = s.timers.set c
      { tcsr := { s.timers[c].tcsr with tint := true }, tlr := s.timers[c].tlr, tcr := s.timers[c].tlr } := rfl

/-- A vector written at one channel, read at another. -/
theorem channel_set_ne {α : Type} (xs : Vector α 2) {c c' : Fin 2} (x : α) (h : c ≠ c') :
    (xs.set c x)[c'] = xs[c'] := by
  have : c.val ≠ c'.val := fun e => h (Fin.ext e)
  simp [Fin.getElem_fin, Vector.getElem_set_ne, this]

/-- A vector written at one channel, read there. -/
@[simp] theorem channel_set_self {α : Type} (xs : Vector α 2) (c : Fin 2) (x : α) : (xs.set c x)[c] = x := by
  simp

/-- The life cycle is Running exactly when ENT is set (10_state R35). -/
theorem Tcsr.tstate_running (t : Tcsr) : t.tstate = .running ↔ t.ent = true := by
  unfold Tcsr.tstate
  split
  · simp [*]
  · split <;> simp [*]

/-- `D[7:0] = 0xD2`, bit by bit (41_timer R120). -/
theorem isStartValue_bits {d : Word} (h : isStartValue d = true) :
    d.getLsbD 1 = true ∧ d.getLsbD 4 = true ∧ d.getLsbD 5 = false ∧ d.getLsbD 6 = true ∧ d.getLsbD 7 = true := by
  have h : d.extractLsb' 0 8 = 0xD2 := by simpa [isStartValue] using h
  have hb : ∀ j, j < 8 → d.getLsbD j = (0xD2 : BitVec 8).getLsbD j := by
    intro j hj
    rw [← h, BitVec.getLsbD_extractLsb']
    simp [hj]
  exact ⟨hb 1 (by omega), hb 4 (by omega), hb 5 (by omega), hb 6 (by omega), hb 7 (by omega)⟩

theorem isStartValue_iff (d : Word) : isStartValue d = true ↔ d.extractLsb' 0 8 = 0xD2 := by
  simp [isStartValue]

/-- Everything a WR TCSR can do (41_timer R122, 60_exceptions R204): it writes its channel, or it stops in one of three ways. -/
theorem wrTmrTcsr_cases {c : Fin 2} {d : Word} {s t : State} (h : exec (.wrTmrTcsr c d) s = .next t) :
    (t = s.writeTcsr c d
      ∧ ((s.tstate c = .running ∧ isStartValue d = true) ∨ (s.tstate c ≠ .running ∧ d.getLsbD 7 = false)
        ∨ (s.tstate c = .configured ∧ isStartValue d = true)))
    ∨ (t = s.raiseFault .timerReconfiguredWhileRunning (.wrTmrTcsr c d)
      ∧ s.tstate c = .running ∧ isStartValue d = false)
    ∨ (t = s.refuse .unsupportedTimerMode
      ∧ s.tstate c ≠ .running ∧ d.getLsbD 7 = true ∧ isStartValue d = false)
    ∨ (t = s.raiseFault .timerStartNotConfigured (.wrTmrTcsr c d)
      ∧ s.tstate c = .disabled ∧ isStartValue d = true) := by
  have h7 : isStartValue d = true → d.getLsbD 7 = true := fun hd => (isStartValue_bits hd).2.2.2.2
  cases hst : s.tstate c <;> cases hd : isStartValue d <;> cases hb : d.getLsbD 7 <;>
    simp_all [exec, execWrTmrTcsr]

/-- The three cases in which a WR TCSR writes its channel (41_timer R122). -/
theorem wrTmrTcsr_writes {c : Fin 2} {d : Word} {s : State}
    (h : (s.tstate c = .running ∧ isStartValue d = true) ∨ (s.tstate c ≠ .running ∧ d.getLsbD 7 = false)
      ∨ (s.tstate c = .configured ∧ isStartValue d = true)) :
    exec (.wrTmrTcsr c d) s = .next (s.writeTcsr c d) := by
  have h7 : isStartValue d = true → d.getLsbD 7 = true := fun hd => (isStartValue_bits hd).2.2.2.2
  cases hst : s.tstate c <;> cases hd : isStartValue d <;> cases hb : d.getLsbD 7 <;>
    simp_all [exec, execWrTmrTcsr]

/-- After a TCSR write the life cycle is that of the fields written. -/
@[simp] theorem State.writeTcsr_tstate (s : State) (c : Fin 2) (d : Word) :
    (s.writeTcsr c d).tstate c = (s.timers[c].tcsr.write d).tstate := by
  unfold State.tstate
  rw [State.writeTcsr_timers, channel_set_self]
  rfl

/-! ### Every meaning -/

/-- Every operation answers a next state: a fault is recorded and a refusal marked in it (60_exceptions R200, R201). -/
theorem exec_next (i : Instr) (s : State) : ∃ t, exec i s = .next t := by
  cases i <;> simp only [exec, execRdGpioInData, execRdGpioInTri, execWrGpioInTri, execRdGpioOutData,
    execWrGpioOutData, execRdGpioOutTri, execWrGpioOutTri, execRdTmrTcsr, execWrTmrTcsr, execRdTmrTlr,
    execWrTmrTlr, execRdTmrTcr, execRdIntcIsr, execRdIntcIpr, execRdIntcIer, execWrIntcIer, execWrIntcIar,
    execRdIntcMer, execWrIntcMer, execRdCoreDbState, execRdCorePhase, execRdCoreBlink, execRdCoreDuty,
    execWrCoreDuty, execSample, execTclk, execStrobePwmTick, execStrobeBlinkToggle, execSetIe, execReset] <;>
    (repeat' split) <;> exact ⟨_, rfl⟩

/-- What no operation changes: the configuration, the schedule, the step count and the issuer. -/
theorem exec_keeps {i : Instr} {s t : State} (h : exec i s = .next t) :
    t.cfg = s.cfg ∧ t.inputs = s.inputs ∧ t.steps = s.steps ∧ t.issuer = s.issuer := by
  cases i <;> simp only [exec, execRdGpioInData, execRdGpioInTri, execWrGpioInTri, execRdGpioOutData,
    execWrGpioOutData, execRdGpioOutTri, execWrGpioOutTri, execRdTmrTcsr, execWrTmrTcsr, execRdTmrTlr,
    execWrTmrTlr, execRdTmrTcr, execRdIntcIsr, execRdIntcIpr, execRdIntcIer, execWrIntcIer, execWrIntcIar,
    execRdIntcMer, execWrIntcMer, execRdCoreDbState, execRdCorePhase, execRdCoreBlink, execRdCoreDuty,
    execWrCoreDuty, execSample, execTclk, execStrobePwmTick, execStrobeBlinkToggle, execSetIe, execReset] at h <;>
    (repeat' split at h) <;> cases h <;> exact ⟨rfl, rfl, rfl, rfl⟩

end Sys2Proof.Machine
end

