-- ==== Sys2Proof/Laws/PerInstr.lean ====
section
/-! SUPPORT. Per instruction: its encoding satisfies its row of spec/opcode_table.json, carries the code of its kind, and has
RSV = 0 (30_encoding R80, R81, R95). -/

namespace Sys2Proof.Laws

/-- A mask that fixes KIND, UNIT and RSV, with the given masks of SEL and DATA. -/
def rowMask (ms : BitVec 8) (md : Word) : Txn := (0xF : BitVec 4) ++ (0xF : BitVec 4) ++ (0xFFFF : BitVec 16) ++ ms ++ md

/-- Masking an assembled word masks its SEL and DATA. -/
theorem ofFields_and_rowMask (k u : BitVec 4) (s ms : BitVec 8) (d md : Word) :
    Txn.ofFields k u s d &&& rowMask ms md = Txn.ofFields k u (s &&& ms) (d &&& md) := by
  have hk : (0xF : BitVec 4) = BitVec.allOnes 4 := by decide
  unfold Txn.ofFields rowMask
  ext j hj
  rw [← BitVec.getLsbD_eq_getElem, ← BitVec.getLsbD_eq_getElem]
  simp only [BitVec.getLsbD_and, BitVec.getLsbD_append, hk, BitVec.getLsbD_allOnes]
  by_cases h1 : j < 32
  · simp [h1]
  by_cases h2 : j - 32 < 8
  · simp [h1, h2]
  by_cases h3 : j - 32 - 8 < 16
  · simp [h1, h2, h3]
  by_cases h4 : j - 32 - 8 - 16 < 4
  · simp [h1, h2, h3, h4]
  · simp [h1, h2, h3, h4, show j - 32 - 8 - 16 - 4 < 4 by omega]

/-- What is stated of every operation. -/
def RowAccepts.Statement (i : Instr) : Prop :=
  (tableRow i).Accepts (encode i) ∧ (encode i).kindField = i.kind.code ∧ (encode i).rsv = 0

/-- A WR row leaves DATA free: the row accepts whatever the data. -/
theorem wr_row {r : Reg} (d : Word) (ms : BitVec 8) (value : Txn)
    (h : Txn.ofFields Kind.wr.code r.unit.code (r.offset &&& ms) 0 = value) :
    encodeWr r d &&& rowMask ms 0 = value := by
  rw [encodeWr, ofFields_and_rowMask, show d &&& 0 = 0 from BitVec.and_zero]
  exact h

theorem RowAccepts.rdGpioInData : Statement .rdGpioInData := by unfold Statement; decide
theorem RowAccepts.rdGpioInTri : Statement .rdGpioInTri := by unfold Statement; decide
theorem RowAccepts.wrGpioInTri (d : Word) : Statement (.wrGpioInTri d) :=
  ⟨wr_row d 0xFF _ (by dsimp only [tableRow]; decide), by simp [encode, encodeWr, Instr.kind], by simp [encode, encodeWr]⟩
theorem RowAccepts.rdGpioOutData : Statement .rdGpioOutData := by unfold Statement; decide
theorem RowAccepts.wrGpioOutData (d : Word) : Statement (.wrGpioOutData d) :=
  ⟨wr_row d 0xFF _ (by dsimp only [tableRow]; decide), by simp [encode, encodeWr, Instr.kind], by simp [encode, encodeWr]⟩
theorem RowAccepts.rdGpioOutTri : Statement .rdGpioOutTri := by unfold Statement; decide
theorem RowAccepts.wrGpioOutTri (d : Word) : Statement (.wrGpioOutTri d) :=
  ⟨wr_row d 0xFF _ (by dsimp only [tableRow]; decide), by simp [encode, encodeWr, Instr.kind], by simp [encode, encodeWr]⟩
theorem RowAccepts.rdTmrTcsr (c : Fin 2) : Statement (.rdTmrTcsr c) := by unfold Statement; revert c; decide
theorem RowAccepts.wrTmrTcsr (c : Fin 2) (d : Word) : Statement (.wrTmrTcsr c d) :=
  ⟨wr_row d 0xEF _ (by dsimp only [tableRow]; revert c; decide), by simp [encode, encodeWr, Instr.kind], by simp [encode, encodeWr]⟩
theorem RowAccepts.rdTmrTlr (c : Fin 2) : Statement (.rdTmrTlr c) := by unfold Statement; revert c; decide
theorem RowAccepts.wrTmrTlr (c : Fin 2) (d : Word) : Statement (.wrTmrTlr c d) :=
  ⟨wr_row d 0xEF _ (by dsimp only [tableRow]; revert c; decide), by simp [encode, encodeWr, Instr.kind], by simp [encode, encodeWr]⟩
theorem RowAccepts.rdTmrTcr (c : Fin 2) : Statement (.rdTmrTcr c) := by unfold Statement; revert c; decide
theorem RowAccepts.rdIntcIsr : Statement .rdIntcIsr := by unfold Statement; decide
theorem RowAccepts.rdIntcIpr : Statement .rdIntcIpr := by unfold Statement; decide
theorem RowAccepts.rdIntcIer : Statement .rdIntcIer := by unfold Statement; decide
theorem RowAccepts.wrIntcIer (d : Word) : Statement (.wrIntcIer d) :=
  ⟨wr_row d 0xFF _ (by dsimp only [tableRow]; decide), by simp [encode, encodeWr, Instr.kind], by simp [encode, encodeWr]⟩
theorem RowAccepts.wrIntcIar (d : Word) : Statement (.wrIntcIar d) :=
  ⟨wr_row d 0xFF _ (by dsimp only [tableRow]; decide), by simp [encode, encodeWr, Instr.kind], by simp [encode, encodeWr]⟩
theorem RowAccepts.rdIntcMer : Statement .rdIntcMer := by unfold Statement; decide
theorem RowAccepts.wrIntcMer (d : Word) : Statement (.wrIntcMer d) :=
  ⟨wr_row d 0xFF _ (by dsimp only [tableRow]; decide), by simp [encode, encodeWr, Instr.kind], by simp [encode, encodeWr]⟩
theorem RowAccepts.rdCoreDbState : Statement .rdCoreDbState := by unfold Statement; decide
theorem RowAccepts.rdCorePhase : Statement .rdCorePhase := by unfold Statement; decide
theorem RowAccepts.rdCoreBlink : Statement .rdCoreBlink := by unfold Statement; decide
theorem RowAccepts.rdCoreDuty (k : Fin 3) : Statement (.rdCoreDuty k) := by unfold Statement; revert k; decide
theorem RowAccepts.wrCoreDuty (k : Fin 3) (d : Word) : Statement (.wrCoreDuty k d) :=
  ⟨wr_row d 0xF3 _ (by dsimp only [tableRow]; revert k; decide), by simp [encode, encodeWr, Instr.kind], by simp [encode, encodeWr]⟩
theorem RowAccepts.sample (i : Fin 32) (raw : Bool) : Statement (.sample i raw) := by
  unfold Statement; revert raw i; decide
theorem RowAccepts.tclk (c : Fin 2) : Statement (.tclk c) := by unfold Statement; revert c; decide
theorem RowAccepts.strobePwmTick : Statement .strobePwmTick := by unfold Statement; decide
theorem RowAccepts.strobeBlinkToggle : Statement .strobeBlinkToggle := by unfold Statement; decide
theorem RowAccepts.setIe (v : Bool) : Statement (.setIe v) := by unfold Statement; revert v; decide
theorem RowAccepts.reset : Statement .reset := by unfold Statement; decide

end Sys2Proof.Laws
end

