-- ==== Sys2Proof/Laws/Step.lean ====
section
/-! SUPPORT. What a transaction, a sequencer step and a step of the machine can do, said once. -/

namespace Sys2Proof.Machine

/-- A transaction is a refusal of the decoder or the decoded operation (60_exceptions R204). -/
theorem transaction_cases {a : Agent} {T : Txn} {s t : State} (h : transaction a T s = .next t) :
    (∃ r, decode s.cfg a T = .refuse r ∧ t = { s with issuer := a }.refuse r)
    ∨ (∃ i, decode s.cfg a T = .op i ∧ exec i { s with issuer := a } = .next t) := by
  unfold transaction at h
  split at h
  · rename_i i hi
    exact .inr ⟨i, hi, h⟩
  · rename_i r hr
    cases h
    exact .inl ⟨r, hr, rfl⟩

theorem transaction_next (a : Agent) (T : Txn) (s : State) : ∃ t, transaction a T s = .next t := by
  unfold transaction
  split
  · exact exec_next _ _
  · exact ⟨_, rfl⟩

/-- The sequencer's own part is done, or the transaction faulted or was refused and SEQ stays. -/
theorem thenSeq_cases {r : Result} {f : State → State} {t : State} (h : thenSeq r f = .next t) :
    ∃ u, r = .next u
      ∧ ((((∃ c, u.resp = .faulted c) ∨ ∃ e, u.resp = .refused e) ∧ t = u)
        ∨ ((u.resp = .silent ∨ ∃ w, u.resp = .value w) ∧ t = f u)) := by
  unfold thenSeq at h
  split at h
  · rename_i u
    refine ⟨u, rfl, ?_⟩
    split at h <;> cases h
    · rename_i c hc
      exact .inl ⟨.inl ⟨c, hc⟩, rfl⟩
    · rename_i e he
      exact .inl ⟨.inr ⟨e, he⟩, rfl⟩
    · rename_i hs
      exact .inr ⟨.inl hs, rfl⟩
    · rename_i w hw
      exact .inr ⟨.inr ⟨w, hw⟩, rfl⟩
  · rename_i hne
    exact absurd h (hne t)

theorem thenSeq_next {r : Result} {u : State} (f : State → State) (h : r = .next u) :
    ∃ t, thenSeq r f = .next t := by
  subst h
  simp only [thenSeq]
  split <;> exact ⟨_, rfl⟩

theorem handlerStep_next (s : State) : ∃ t, handlerStep s = .next t := by
  unfold handlerStep
  split
  · exact ⟨_, rfl⟩
  · exact thenSeq_next _ (transaction_next _ _ _).choose_spec
  · exact thenSeq_next _ (transaction_next _ _ _).choose_spec
  · unfold actStep
    split
    · exact thenSeq_next _ (transaction_next _ _ _).choose_spec
    · exact ⟨_, rfl⟩
  · exact thenSeq_next _ (transaction_next _ _ _).choose_spec
  · exact ⟨_, rfl⟩

theorem perform_next (m : Input) (s : State) : ∃ t, perform m s = .next t := by
  cases m with
  | host T => exact transaction_next _ _ _
  | timer T => exact transaction_next _ _ _
  | env T => exact transaction_next _ _ _
  | handler => exact handlerStep_next s

/-- A step that answers a next state: no fault was recorded, and it is the move's step ended by the latch (20_memory R60). -/
theorem step_cases {s t : State} (h : step s = .next t) :
    s.faults = [] ∧ ∃ u, perform s.nextInput s.popInput = .next u ∧ t = u.endStep := by
  unfold step agentStep at h
  split at h
  · cases h
  · rename_i hf
    obtain ⟨u, hu⟩ := perform_next s.nextInput s.popInput
    rw [hu] at h
    cases h
    exact ⟨by simpa [State.faulted] using hf, u, hu, rfl⟩

/-- A step from a state with no fault. -/
theorem step_of_perform {s u : State} (hf : s.faults = []) (hu : perform s.nextInput s.popInput = .next u) :
    step s = .next u.endStep := by
  unfold step agentStep
  rw [if_neg (by simp [State.faulted, hf]), hu]
  rfl

/-- What a sequencer step of one transaction leaves, SEQ and V apart: a refusal of its word, or its operation. -/
theorem thenSeq_transaction {T : Txn} {s t : State} {f : State → State}
    (hf : ∀ u, ∃ q w, f u = { u with seq := q, v := w })
    (h : thenSeq (transaction .seq T s) f = .next t) :
    ∃ u q w, t = { u with seq := q, v := w }
      ∧ ((∃ r, u = ({ s with issuer := .seq } : State).refuse r)
        ∨ ∃ i, decode s.cfg .seq T = .op i ∧ exec i { s with issuer := .seq } = .next u) := by
  obtain ⟨u, hu, hc⟩ := thenSeq_cases h
  have : ∃ q w, t = { u with seq := q, v := w } := by
    rcases hc with ⟨_, rfl⟩ | ⟨_, rfl⟩
    · exact ⟨t.seq, t.v, rfl⟩
    · exact hf u
  obtain ⟨q, w, ht⟩ := this
  exact ⟨u, q, w, ht, (transaction_cases hu).imp (fun ⟨r, _, h⟩ => ⟨r, h⟩) id⟩

/-- Everything a sequencer step can do, SEQ and V apart: nothing, a refusal, or one operation that the sequencer may
issue (60_exceptions R210, R217). -/
theorem handlerStep_cases {s t : State} (h : handlerStep s = .next t) :
    ∃ u q w, t = { u with seq := q, v := w }
      ∧ (u = { s with issuer := .seq, resp := .silent }
        ∨ (∃ r, u = ({ s with issuer := .seq } : State).refuse r)
        ∨ ∃ i T, decode s.cfg .seq T = .op i ∧ exec i { s with issuer := .seq } = .next u) := by
  have key : ∀ {T f}, (∀ u, ∃ q w, f u = { u with seq := q, v := w }) →
      thenSeq (transaction .seq T s) f = .next t →
      ∃ u q w, t = { u with seq := q, v := w }
        ∧ (u = { s with issuer := .seq, resp := .silent }
          ∨ (∃ r, u = ({ s with issuer := .seq } : State).refuse r)
          ∨ ∃ i T, decode s.cfg .seq T = .op i ∧ exec i { s with issuer := .seq } = .next u) := by
    intro T f hf h
    obtain ⟨u, q, w, ht, hu⟩ := thenSeq_transaction hf h
    exact ⟨u, q, w, ht, .inr (hu.imp id fun ⟨i, hi⟩ => ⟨i, T, hi⟩)⟩
  unfold handlerStep at h
  split at h
  · cases h
    exact ⟨_, .rd 0, s.v, rfl, .inl rfl⟩
  · exact key (fun u => ⟨_, _, rfl⟩) h
  · exact key (fun u => ⟨_, u.v, rfl⟩) h
  · unfold actStep at h
    split at h
    · exact key (fun u => ⟨_, u.v, rfl⟩) h
    · cases h
      exact ⟨_, _, s.v, rfl, .inl rfl⟩
  · exact key (fun u => ⟨_, u.v, rfl⟩) h
  · cases h
    exact ⟨_, .idle, s.v, rfl, .inl rfl⟩

/-- Everything a step of the machine can do, SEQ and V apart: nothing, a refusal, or one decoded operation of an agent;
then the latch and the count (20_memory R60). -/
theorem step_effect {s t : State} (h : step s = .next t) :
    ∃ u q w rest, t = ({ u with seq := q, v := w } : State).endStep
      ∧ (u = { s with inputs := rest, issuer := .seq, resp := .silent }
        ∨ (∃ r a, u = ({ s with inputs := rest, issuer := a } : State).refuse r)
        ∨ ∃ i T a, decode s.cfg a T = .op i ∧ exec i { s with inputs := rest, issuer := a } = .next u) := by
  obtain ⟨_, u, hu, rfl⟩ := step_cases h
  have word : ∀ {a T}, transaction a T s.popInput = .next u →
      ∃ u' q w rest, u.endStep = ({ u' with seq := q, v := w } : State).endStep
        ∧ (u' = { s with inputs := rest, issuer := .seq, resp := .silent }
          ∨ (∃ r a, u' = ({ s with inputs := rest, issuer := a } : State).refuse r)
          ∨ ∃ i T a, decode s.cfg a T = .op i ∧ exec i { s with inputs := rest, issuer := a } = .next u') := by
    intro a T hu
    refine ⟨u, u.seq, u.v, s.popInput.inputs, rfl, .inr ?_⟩
    rcases transaction_cases hu with ⟨r, _, rfl⟩ | ⟨i, hi, hx⟩
    · exact .inl ⟨r, a, rfl⟩
    · exact .inr ⟨i, T, a, hi, hx⟩
  generalize s.nextInput = m at hu
  cases m with
  | host T => exact word hu
  | timer T => exact word hu
  | env T => exact word hu
  | handler =>
    obtain ⟨u', q, w, rfl, hc⟩ := handlerStep_cases hu
    refine ⟨u', q, w, s.popInput.inputs, rfl, ?_⟩
    rcases hc with rfl | ⟨r, rfl⟩ | ⟨i, T, hi, hx⟩
    · exact .inl rfl
    · exact .inr (.inl ⟨r, _, rfl⟩)
    · exact .inr (.inr ⟨i, T, _, hi, hx⟩)

end Sys2Proof.Machine
end

