-- ==== Sys2Proof/Tests/Slice0.lean ====
section
/-! SUPPORT. Tests: ill-formed terms refused, words written out from the spec's encodings decoded, the spec's examples
run by one operation or one step, and states that meet the hypotheses of each statement. -/

namespace Sys2Proof.Tests

open Sys2Proof Sys2Proof.Machine

/-! ### Small states and readings -/

/-- A running channel with the given load value, counter and flag. -/
def channel (l n : Word) (tint : Bool) : Timer :=
  { tcsr := { udt := true, arht := true, load := false, enit := true, ent := true, tint := tint }, tlr := l, tcr := n }

/-- The booted state of 70_reset_and_hazards R243 with L_0 = 1 and L_1 = 3. -/
def booted : State :=
  { State.reset with
    gpioInTri := 0x3, triWrittenIn := true, gpioOutTri := 0x0, triWrittenOut := true, gpioOutData := 0x7
    timers := #v[channel 1 1 false, channel 3 3 false]
    ier := true, me := true, hie := true, hostIE := true }

/-- Both channels' flags set and latched (95_test_vectors P4). -/
def pending : State := { booted with timers := #v[channel 1 1 true, channel 3 3 true], isr := true }

/-- The sequencer at a position, with the value of a pending channel in its latch. -/
def serving (q : Machine.Seq) : State := { pending with seq := q, v := 0x1D2 }

/-- The sequencer at the fast channel's action with the output direction not yet written. -/
def dark : State :=
  { serving (.act 0) with gpioOutTri := 0x7, gpioOutData := 0x0, triWrittenOut := false }

/-- A state with a recorded fault. -/
def stopped : State :=
  { State.reset with
    faults := [{ code := .dataBeforeDirection, word := 0x2000000000000001, issuer := .host, n := 0 }] }

/-- The booted state with one move scheduled. -/
def scheduled (m : Input) : State := { booted with inputs := [m] }

/-- The most debounce lines. -/
def wide : Config := { Config.pDual with nLines := 32 }

/-- A reading of the next state, if there is one. -/
def read {α : Type} (f : State → α) : Result → Option α
  | .next s => some (f s)
  | _ => none

/-- What `step` gives back when the word is placed to run first after reset. -/
def firstStep (w : Nat) : Option Resp := read State.resp (step (State.reset.withFetchWord 64 w))

/-! ### Well-formedness: one ill-formed term per check -/

theorem test_wellFormed_gpio_in_tri : wellFormed .pDual (.wrGpioInTri 0x4) = false := by decide
theorem test_wellFormed_gpio_out_data : wellFormed .pDual (.wrGpioOutData 0x8) = false := by decide
theorem test_wellFormed_gpio_out_tri : wellFormed .pFsm (.wrGpioOutTri 0x4) = false := by decide
theorem test_wellFormed_timer_index :
    wellFormed .pPwm (.rdTmrTcsr 1) = false ∧ wellFormed .pPwm (.wrTmrTcsr 1 0x72) = false
    ∧ wellFormed .pPwm (.rdTmrTlr 1) = false ∧ wellFormed .pPwm (.wrTmrTlr 1 9) = false
    ∧ wellFormed .pPwm (.rdTmrTcr 1) = false ∧ wellFormed .pPwm (.tclk 1) = false := by decide
theorem test_wellFormed_tcsr_reserved : wellFormed .pDual (.wrTmrTcsr 0 0x200) = false := by decide
theorem test_wellFormed_intc_reserved :
    wellFormed .pDual (.wrIntcIer 0x2) = false ∧ wellFormed .pDual (.wrIntcIar 0x2) = false
    ∧ wellFormed .pDual (.wrIntcMer 0x4) = false := by decide
theorem test_wellFormed_duty :
    wellFormed .pFsm (.rdCoreDuty 2) = false ∧ wellFormed .pFsm (.wrCoreDuty 2 0) = false
    ∧ wellFormed .pDual (.wrCoreDuty 0 0x100) = false := by decide
theorem test_wellFormed_line :
    wellFormed .pDual (.sample 2 true) = false ∧ wellFormed wide (.sample 31 true) = true := by decide

/-! ### Words written out from the encodings of the rules (R80 to R87 and the family files) -/

/-- 40_debounce R100, R104 to R107. The last SAMPLE is line 31 of 32. -/
theorem test_decode_debounce :
    decode .pDual .host 0x2000000100000001 = .op (.sample 1 true)
    ∧ decode wide .host 0x2000001F00000000 = .op (.sample 31 false)
    ∧ decode .pDual .seq 0x0400000000000000 = .op .rdCoreDbState
    ∧ decode .pDual .host 0x0000000000000000 = .op .rdGpioInData
    ∧ decode .pDual .host 0x1000000400000003 = .op (.wrGpioInTri 0x3)
    ∧ decode .pDual .host 0x0000000400000000 = .op .rdGpioInTri := by decide

/-- 41_timer R121 to R126. -/
theorem test_decode_timer :
    decode .pDual .host 0x0200001000000000 = .op (.rdTmrTcsr 1)
    ∧ decode .pDual .seq 0x12000010000001D2 = .op (.wrTmrTcsr 1 0x1D2)
    ∧ decode .pDual .host 0x0200001400000000 = .op (.rdTmrTlr 1)
    ∧ decode .pDual .host 0x12000004FFFFFFFF = .op (.wrTmrTlr 0 0xFFFFFFFF)
    ∧ decode .pDual .host 0x0200000800000000 = .op (.rdTmrTcr 0)
    ∧ decode .pDual .timer 0x3000000100000000 = .op (.tclk 1) := by decide

/-- 42_interrupt_ack R152 to R161. -/
theorem test_decode_interrupt :
    decode .pDual .host 0x0300000000000000 = .op .rdIntcIsr
    ∧ decode .pDual .host 0x0300000400000000 = .op .rdIntcIpr
    ∧ decode .pDual .host 0x0300000800000000 = .op .rdIntcIer
    ∧ decode .pDual .host 0x1300000800000001 = .op (.wrIntcIer 0x1)
    ∧ decode .pDual .seq 0x1300000C00000001 = .op (.wrIntcIar 0x1)
    ∧ decode .pDual .host 0x0300001C00000000 = .op .rdIntcMer
    ∧ decode .pDual .host 0x1300001C00000002 = .op (.wrIntcMer 0x2)
    ∧ decode .pDual .host 0x5000000000000001 = .op (.setIe true)
    ∧ decode .pDual .seq 0x4000000100000000 = .op .strobeBlinkToggle
    ∧ decode .pDual .host 0x0400000800000000 = .op .rdCoreBlink := by decide

/-- 43_pwm R170 to R177. -/
theorem test_decode_pwm :
    decode .pDual .seq 0x4000000000000000 = .op .strobePwmTick
    ∧ decode .pDual .host 0x14000018000000FF = .op (.wrCoreDuty 2 0xFF)
    ∧ decode .pDual .host 0x0400001400000000 = .op (.rdCoreDuty 1)
    ∧ decode .pDual .host 0x0400000400000000 = .op .rdCorePhase
    ∧ decode .pDual .host 0x0100000000000000 = .op .rdGpioOutData
    ∧ decode .pDual .host 0x1100000000000007 = .op (.wrGpioOutData 0x7)
    ∧ decode .pDual .host 0x0100000400000000 = .op .rdGpioOutTri
    ∧ decode .pDual .host 0x1100000400000000 = .op (.wrGpioOutTri 0x0) := by decide

/-- 70_reset_and_hazards R240. -/
theorem test_decode_reset : decode .pDual .env 0x6000000000000000 = .op .reset := by decide

/-- 30_encoding R88: one word per refusal reason of the decoder. -/
theorem test_decode_refusals :
    decode .pDual .host 0x7000000000000000 = .refuse .reservedKind
    ∧ decode .pDual .host 0x0000010000000000 = .refuse .reservedField
    ∧ decode .pDual .host 0x3000000000000000 = .refuse .wrongIssuer
    ∧ decode .pDual .host 0x0500000000000000 = .refuse .reservedUnit
    ∧ decode .pDual .host 0x0300000C00000000 = .refuse .noSuchRegister
    ∧ decode .pDual .host 0x0400001C00000000 = .refuse .indexRange
    ∧ decode .pDual .seq 0x4000000200000000 = .refuse .reservedStrobe
    ∧ decode .pDual .host 0x1400001000000100 = .refuse .reservedDataBits := by decide

/-- 30_encoding R92: comments, case, blanks; a duty index that no configuration has; a strobe the host may not issue. -/
theorem test_assembler_lines :
    assembleLine .pDual "  WR  Tmr.TCSR0 ,0xD2 # start" = .word 0x12000000000000D2
    ∧ assembleLine .pDual "# only a comment" = .blank
    ∧ assembleLine .pFsm "rd core.duty2" = .refused .indexRange
    ∧ assembleLine .pDual "wr core.duty0, 4294967296" = .badText := by decide

/-! ### The first step after reset runs the placed word -/

theorem test_first_step_host : firstStep 0x0000000400000000 = some (.value 0x3) := by decide
theorem test_first_step_fault : firstStep 0x2000000000000001 = some (.faulted .dataBeforeDirection) := by decide
theorem test_first_step_strobe : firstStep 0x4000000000000000 = some (.faulted .dataBeforeDirection) := by decide
theorem test_first_step_blink :
    read State.blink (step (State.reset.withFetchWord 64 0x4000000100000000)) = some true := by decide
theorem test_first_step_refused : firstStep 0x0400001C00000000 = some (.refused .indexRange) := by decide
theorem test_first_step_reset : firstStep 0x6000000000000000 = some .silent := by decide

/-! ### The examples of the rules -/

/-- 40_debounce R100: a release. -/
theorem test_sample_release :
    read (fun t => (t.db[0], t.resp)) (exec (.sample 0 false) { booted with db := booted.db.set 0 .pressed })
      = some (.idle, .value 1) := by decide

/-- 90_conflicts C1: the first sample after reset with raw 1 is a press. -/
theorem test_sample_first_press :
    read (fun t => (t.db[1], t.resp)) (exec (.sample 1 true) booted) = some (.pressed, .value 0) := by decide

/-- 40_debounce R104: line 0 Idle, line 1 Pressed. -/
theorem test_rd_core_db_state :
    read State.resp (exec .rdCoreDbState { booted with db := booted.db.set 1 .pressed }) = some (.value 0x2) := by
  decide

/-- 40_debounce R105: a data access before the direction write. -/
theorem test_rd_gpio_in_data_fault :
    read (fun t => t.faults.map (·.code)) (exec .rdGpioInData State.reset) = some [.dataBeforeDirection] := by decide

/-- 40_debounce R106: at reset; and a second write. -/
theorem test_wr_gpio_in_tri :
    read (fun t => (t.gpioInTri, t.triWrittenIn)) (exec (.wrGpioInTri 0x2) State.reset) = some (0x2, true) := by decide
theorem test_wr_gpio_in_tri_twice :
    read State.resp (exec (.wrGpioInTri 0x3) booted) = some (.faulted .directionRewritten) := by decide

/-- 40_debounce R107: the reset value. -/
theorem test_rd_gpio_in_tri : read State.resp (exec .rdGpioInTri State.reset) = some (.value 0x3) := by decide

/-- 41_timer R121: Running with the flag set and with it clear. -/
theorem test_rd_tmr_tcsr_pending : read State.resp (exec (.rdTmrTcsr 0) pending) = some (.value 0x1D2) := by decide
theorem test_rd_tmr_tcsr_running : read State.resp (exec (.rdTmrTcsr 1) booted) = some (.value 0xD2) := by decide

/-- 41_timer R122: the peripheral-level acknowledge leaves the other channel's flag. -/
theorem test_wr_tmr_tcsr_ack :
    read (fun t => (t.timers[0].tcsr.tint, t.timers[1].tcsr.tint)) (exec (.wrTmrTcsr 0 0x1D2) pending)
      = some (false, true) := by decide

/-- 60_exceptions R204: a Disabled channel written 0x80 is refused, not faulted. -/
theorem test_wr_tmr_tcsr_mode :
    read State.resp (exec (.wrTmrTcsr 0 0x80) State.reset) = some (.refused .unsupportedTimerMode) := by decide

/-- 41_timer R123, R124: a Disabled channel 1 written 99; its counter stays. -/
theorem test_wr_tmr_tlr :
    read (fun t => (t.timers[1].tlr, t.timers[1].tcr)) (exec (.wrTmrTlr 1 99) State.reset) = some (99, 0) := by decide
theorem test_rd_tmr_tlr :
    read State.resp (exec (.rdTmrTlr 1) { booted with timers := #v[channel 1 1 false, channel 99 0 false] })
      = some (.value 0x63) := by decide

/-- 41_timer R125: the counter. -/
theorem test_rd_tmr_tcr :
    read State.resp (exec (.rdTmrTcr 0) { booted with timers := #v[channel 9 8 false, channel 3 3 false] })
      = some (.value 8) := by decide

/-- 41_timer R126: an expiry reloads; and a count from the top of the counter's range. -/
theorem test_tclk_expiry :
    read (fun t => (t.timers[0].tcsr.tint, t.timers[0].tcr, t.expired[0]))
      (exec (.tclk 0) { booted with timers := #v[channel 3 0 false, channel 3 3 false] }) = some (true, 3, 1) := by
  decide
theorem test_tclk_count :
    read (fun t => t.timers[1].tcr)
      (exec (.tclk 1) { booted with timers := #v[channel 3 0 false, channel 3 0xFFFFFFFF false] })
      = some 0xFFFFFFFE := by decide

/-- 42_interrupt_ack R152, R153: latched but masked. -/
theorem test_rd_intc_isr : read State.resp (exec .rdIntcIsr { pending with ier := false }) = some (.value 1) := by decide
theorem test_rd_intc_ipr : read State.resp (exec .rdIntcIpr { pending with ier := false }) = some (.value 0) := by decide

/-- 42_interrupt_ack R154, R155. -/
theorem test_rd_intc_ier : read State.resp (exec .rdIntcIer State.reset) = some (.value 0) := by decide
theorem test_wr_intc_ier :
    read (fun t => (t.ier, t.irq)) (exec (.wrIntcIer 0x1) State.reset) = some (true, false) := by decide

/-- 42_interrupt_ack R156, R162: an acknowledge with the line low, and one that the latch undoes. -/
theorem test_wr_intc_iar :
    read (fun t => t.latch.irq) (exec (.wrIntcIar 0x1) { booted with isr := true }) = some false := by decide
theorem test_wr_intc_iar_undone : read (fun t => t.latch.irq) (exec (.wrIntcIar 0x1) pending) = some true := by decide

/-- 42_interrupt_ack R157, R158: HIE is set-once. -/
theorem test_wr_intc_mer :
    read (fun t => (t.me, t.hie)) (exec (.wrIntcMer 0x0) booted) = some (false, true) := by decide
theorem test_rd_intc_mer :
    read State.resp (exec .rdIntcMer { booted with me := false }) = some (.value 0x2) := by decide

/-- 42_interrupt_ack R159 to R161. -/
theorem test_setie : read State.hostIE (exec (.setIe true) State.reset) = some true := by decide
theorem test_strobe_blink_toggle : read State.blink (exec .strobeBlinkToggle State.reset) = some true := by decide
theorem test_rd_core_blink : read State.resp (exec .rdCoreBlink { booted with blink := true }) = some (.value 1) := by
  decide

/-- 43_pwm R170: the example, from PHASE = 3; and 95_test_vectors E3, the wrap to 0. -/
theorem test_strobe_pwm_tick :
    read (fun t => (t.phase, t.gpioOutData)) (exec .strobePwmTick { booted with phase := 3, duty := #v[5, 4, 0] })
      = some (4, 0x6) := by decide
theorem test_strobe_pwm_tick_wrap :
    read (fun t => (t.phase, t.gpioOutData)) (exec .strobePwmTick { booted with phase := 255, duty := #v[255, 1, 0] })
      = some (0, 0x4) := by decide

/-- 43_pwm R171 to R173. -/
theorem test_wr_core_duty : read (fun t => t.duty[2]) (exec (.wrCoreDuty 2 0xFF) booted) = some 255 := by decide
theorem test_rd_core_duty :
    read State.resp (exec (.rdCoreDuty 0) { booted with duty := #v[255, 4, 0] }) = some (.value 0xFF) := by decide
theorem test_rd_core_phase : read State.resp (exec .rdCorePhase { booted with phase := 255 }) = some (.value 0xFF) := by
  decide

/-- 43_pwm R174, R175: the latch, also for a pin that is not driven. -/
theorem test_rd_gpio_out_data :
    read State.resp (exec .rdGpioOutData { booted with gpioOutTri := 0x7 }) = some (.value 0x7) := by decide
theorem test_wr_gpio_out_data : read State.gpioOutData (exec (.wrGpioOutData 0x5) booted) = some 0x5 := by decide

/-- 43_pwm R176, R177. -/
theorem test_rd_gpio_out_tri : read State.resp (exec .rdGpioOutTri State.reset) = some (.value 0x7) := by decide
theorem test_wr_gpio_out_tri :
    read (fun t => (t.triWrittenOut, t.pwmPin 2)) (exec (.wrGpioOutTri 0x0) State.reset)
      = some (true, some (.driven false)) := by decide

/-- 43_pwm R183: with N_PWM = 2 the block drives two pins. -/
theorem test_two_output_pins :
    read (fun t => (t.pwmPin 1, t.pwmPin 2)) (exec (.wrGpioOutTri 0x0) (State.powerOn .pFsm))
      = some (some (.driven false), none) := by decide

/-- 70_reset_and_hazards R240: RESET stops a running channel and discards a pending interrupt. -/
theorem test_reset :
    read (fun t => (t.tstate 0, t.isr, t.gpioOutTri, t.seq)) (exec .reset (serving (.act 1)))
      = some (.disabled, false, 0x7, .idle) := by decide

/-- 70_reset_and_hazards R242: the boot words of profile P_PWM without the optional step. -/
theorem test_boot_sequence :
    (bootSequence .pPwm #v[9, 0] false).map encode
      = [0x1000000400000003, 0x1100000400000000, 0x1200000400000009, 0x1200000000000072, 0x1300000800000001,
         0x1300001C00000003, 0x12000000000000D2, 0x5000000000000001] := by decide

/-- 60_exceptions R210, R222: the position after RD(0), ACK(0) and ACT(1) when both channels are pending. -/
theorem test_handler_positions :
    read State.seq (handlerStep (serving (.rd 0))) = some (.ack 0)
    ∧ read State.seq (handlerStep (serving (.ack 0))) = some (.act 0)
    ∧ read State.seq (handlerStep (serving (.act 0))) = some (.rd 1)
    ∧ read State.seq (handlerStep (serving (.act 1))) = some .iar := by decide

/-! ### States and operands that meet the hypotheses of the statements, clause by clause -/

theorem test_hyp_EncodeThenDecodeReturnsTheInstruction :
    wellFormed wide (.sample 31 true) = true ∧ mayIssue .host (Instr.sample 31 true).kind = true := by decide

theorem test_hyp_AcceptedWordsAreEncodings :
    decode .pDual .seq 0x12000010000001D2 = .op (.wrTmrTcsr 1 0x1D2) := by decide

theorem test_hyp_OpcodeRowsAcceptAndAreDisjoint :
    decode .pDual .host 0x2000000100000001 = .op (.sample 1 true)
    ∧ (tableRow (.sample 0 false)).Accepts 0x2000000100000001
    ∧ (tableRow (.sample 1 true)).Accepts 0x2000000100000001 := by decide

theorem test_hyp_FirstRefusalIsTheFirstCheck :
    7 ≤ (0x7000000000000000 : Txn).kindField.toNat
    ∧ ((0x6080000000000000 : Txn).kindField.toNat < 7 ∧ (0x6080000000000000 : Txn).rsv ≠ 0)
    ∧ (Kind.ofCode (0x6000000000000000 : Txn).kindField = some .reset ∧ (0x6000000000000000 : Txn).rsv = 0
      ∧ mayIssue .host .reset = false)
    ∧ (Kind.ofCode (0x1500000000000000 : Txn).kindField = some .wr ∧ (0x1500000000000000 : Txn).rsv = 0
      ∧ mayIssue .seq .wr = true ∧ 5 ≤ (0x1500000000000000 : Txn).unitField.toNat)
    ∧ (Kind.ofCode (0x5F00000000000000 : Txn).kindField = some .setie ∧ (0x5F00000000000000 : Txn).rsv = 0
      ∧ mayIssue .host .setie = true ∧ (0x5F00000000000000 : Txn).unitField ≠ 0) := by decide

theorem test_hyp_OnlyTheMapNamesRegisters :
    ((0x0300001000000000 : Txn).kindField.toNat < 2 ∧ (0x0300001000000000 : Txn).rsv = 0
      ∧ (0x0300001000000000 : Txn).unitField = RegUnit.intc.code
      ∧ (0x0300001000000000 : Txn).sel ∉ offsetsOf .intc)
    ∧ ((0x140000FF00000000 : Txn).kindField.toNat < 2 ∧ (0x140000FF00000000 : Txn).rsv = 0
      ∧ (0x140000FF00000000 : Txn).unitField.toNat < 5 ∧ (0x140000FF00000000 : Txn).sel.toNat % 4 ≠ 0) := by decide

theorem test_hyp_OperandFormsAndTheirRefusals_tclk :
    (0x3000000100000000 : Txn).rsv = 0 ∧ (0x3000000100000000 : Txn).kindField = 0x3
    ∧ (0x3000000100000000 : Txn).unitField = 0 ∧ Config.pPwm.nTch.val ≤ (0x3000000100000000 : Txn).sel.toNat
    ∧ (1 : Fin 2).val < Config.pDual.nTch.val ∧ (0x3000000100000000 : Txn).sel.toNat = (1 : Fin 2).val
    ∧ (0x3000000100000000 : Txn).data = 0
    ∧ (0x3000000180000000 : Txn).sel.toNat < Config.pDual.nTch.val ∧ (0x3000000180000000 : Txn).data ≠ 0 := by decide

theorem test_hyp_OperandFormsAndTheirRefusals_strobe :
    (0x4000000200000000 : Txn).rsv = 0 ∧ (0x4000000200000000 : Txn).kindField = 0x4
    ∧ (0x4000000200000000 : Txn).unitField = 0 ∧ 2 ≤ (0x4000000200000000 : Txn).sel.toNat
    ∧ (0x4000000180000000 : Txn).sel.toNat < 2 ∧ (0x4000000180000000 : Txn).data ≠ 0
    ∧ (0x4000000000000000 : Txn).sel = 0x00 ∧ (0x4000000000000000 : Txn).data = 0
    ∧ (0x4000000100000000 : Txn).sel = 0x01 ∧ (0x4000000100000000 : Txn).data = 0 := by decide

theorem test_hyp_OperandFormsAndTheirRefusals_setie_reset :
    (0x5000000000000002 : Txn).rsv = 0 ∧ (0x5000000000000002 : Txn).kindField = 0x5
    ∧ (0x5000000000000002 : Txn).unitField = 0 ∧ (0x5000000000000002 : Txn).data.extractLsb' 1 31 ≠ 0
    ∧ (0x5000000000000001 : Txn).sel = 0 ∧ (0x5000000000000001 : Txn).data = 1
    ∧ (0x6000000000000001 : Txn).rsv = 0 ∧ (0x6000000000000001 : Txn).kindField = 0x6
    ∧ (0x6000000000000001 : Txn).unitField = 0 ∧ (0x6000000000000001 : Txn).data ≠ 0
    ∧ (0x6000000000000000 : Txn).sel = 0 ∧ (0x6000000000000000 : Txn).data = 0 := by decide

theorem test_hyp_OperandFormsAndTheirRefusals_rd_index :
    (0x0400000400000001 : Txn).rsv = 0 ∧ (0x0400000400000001 : Txn).kindField = 0x0
    ∧ (0x0400000400000001 : Txn).unitField = Reg.phase.unit.code
    ∧ (0x0400000400000001 : Txn).sel = Reg.phase.offset
    ∧ readOp .pDual .phase = .op .rdCorePhase ∧ (0x0400000400000001 : Txn).data ≠ 0
    ∧ Config.pPwm.nTch.val ≤ (1 : Fin 2).val := by decide

theorem test_hyp_ReservedBitsReadZeroAndAreNotWritten :
    (∃ t v, exec (.rdTmrTcsr 0) pending = .next t ∧ t.resp = .value v)
    ∧ writeOp .pDual 0x100 (.duty 0) = .op (.wrCoreDuty 0 0x100)
    ∧ (Reg.duty 0).setsReserved .pDual 0x100 = true := ⟨⟨_, _, rfl, rfl⟩, by decide, by decide⟩

theorem test_hyp_OnlyFaultedStatesAreQuiescent : stopped.faults ≠ [] ∧ booted.faults = [] := by decide

theorem test_hyp_RefusedWordOnlyMarksTheState :
    (scheduled (.host 0x7000000000000000)).faults = [] ∧ (scheduled (.host 0x7000000000000000)).seq = .idle
    ∧ (scheduled (.host 0x7000000000000000)).inputs = .host 0x7000000000000000 :: []
    ∧ decode (scheduled (.host 0x7000000000000000)).cfg .host 0x7000000000000000 = .refuse .reservedKind
    ∧ (scheduled (.timer 0x3000000200000000)).inputs = .timer 0x3000000200000000 :: []
    ∧ decode (scheduled (.timer 0x3000000200000000)).cfg .timer 0x3000000200000000 = .refuse .indexRange
    ∧ (scheduled (.env 0x6000000000000001)).inputs = .env 0x6000000000000001 :: []
    ∧ decode (scheduled (.env 0x6000000000000001)).cfg .env 0x6000000000000001 = .refuse .reservedField := by decide

theorem test_hyp_ExecuteRefusesOnlyUnsupportedTimerModes :
    ∃ t, exec (.wrTmrTcsr 0 0x80) State.reset = .next t := ⟨_, rfl⟩

theorem test_hyp_FaultsAndRefusedAreNeverCleared :
    ({ scheduled (.env 0x6000000000000000) with refused := true } : State).refused = true
    ∧ ∃ t, step { scheduled (.env 0x6000000000000000) with refused := true } = .next t := ⟨rfl, _, rfl⟩

theorem test_hyp_ExpiryCountersOnlyGrow :
    ∃ t, exec (.tclk 0) { booted with timers := #v[channel 3 0 false, channel 3 3 false] } = .next t
      ∧ t.expired[(0 : Fin 2)] ≠ booted.expired[(0 : Fin 2)] := ⟨_, rfl, by decide⟩

theorem test_hyp_ReadsHaveNoSideEffect :
    ∃ t, (Instr.rdGpioInData).kind = .rd ∧ exec .rdGpioInData booted = .next t ∧ t.faults = booted.faults :=
  ⟨_, rfl, rfl, rfl⟩

theorem test_hyp_RepeatedWriteChangesNothingMore :
    ∃ t, (Instr.wrTmrTcsr 0 0x1D2).kind = .wr ∧ exec (.wrTmrTcsr 0 0x1D2) pending = .next t
      ∧ t.faults = pending.faults := ⟨_, rfl, rfl, rfl⟩

theorem test_hyp_StepRunsTheDecodedInstruction :
    (scheduled (.host 0x5000000000000000)).faults = [] ∧ (scheduled (.host 0x5000000000000000)).seq = .idle
    ∧ (scheduled (.host 0x5000000000000000)).inputs = .host 0x5000000000000000 :: []
    ∧ decode (scheduled (.host 0x5000000000000000)).cfg .host 0x5000000000000000 = .op (.setIe false)
    ∧ (scheduled (.timer 0x3000000100000000)).inputs = .timer 0x3000000100000000 :: []
    ∧ decode (scheduled (.timer 0x3000000100000000)).cfg .timer 0x3000000100000000 = .op (.tclk 1)
    ∧ (scheduled (.env 0x6000000000000000)).inputs = .env 0x6000000000000000 :: []
    ∧ decode (scheduled (.env 0x6000000000000000)).cfg .env 0x6000000000000000 = .op .reset := by decide

theorem test_hyp_SampleFollowsItsTruthTable :
    booted.triWrittenIn = true ∧ State.reset.triWrittenIn = false
    ∧ Config.pDual.nLines.val ≤ (2 : BitVec 8).toNat
    ∧ (1 : BitVec 8).toNat < Config.pDual.nLines.val ∧ (2 : Word).extractLsb' 1 31 ≠ 0
    ∧ Agent.env ≠ Agent.host := by decide

theorem test_hyp_TriggersAreTheFallingEdges : booted.triWrittenIn = true := by decide

theorem test_hyp_PinReadIsADrawOfTheLines : booted.triWrittenIn = true ∧ State.reset.triWrittenIn = false := by decide

theorem test_hyp_InputDirectionIsWrittenOnceAndReadBack :
    State.reset.triWrittenIn = false ∧ booted.triWrittenIn = true
    ∧ Config.pDual.nLines.val ≤ (2 : Fin 32).val ∧ (0x4 : Word).getLsbD (2 : Fin 32).val = true := by decide

theorem test_hyp_DebounceStateBelongsToSample :
    (∃ t, exec (.sample 0 true) booted = .next t) ∧ ∃ t, handlerStep (serving (.act 1)) = .next t :=
  ⟨⟨_, rfl⟩, ⟨_, rfl⟩⟩

theorem test_hyp_TcsrWriteFollowsItsRule :
    (booted.tstate 0 = .running ∧ (0x1D2 : Word).extractLsb' 0 8 = 0xD2)
    ∧ (State.reset.tstate 0 ≠ .running ∧ (0x72 : Word).getLsbD 7 = false)
    ∧ (∃ s : State, s.tstate 1 = .configured ∧ (0xD2 : Word).extractLsb' 0 8 = 0xD2)
    ∧ (0x0 : Word).extractLsb' 0 8 ≠ 0xD2
    ∧ ((0x80 : Word).getLsbD 7 = true ∧ (0x80 : Word).extractLsb' 0 8 ≠ 0xD2)
    ∧ State.reset.tstate 0 = .disabled
    ∧ ((1 : Fin 2).val < Config.pDual.nTch.val ∧ (0x200 : Word).getLsbD (9 : Fin 32).val = true) :=
  ⟨by decide, by decide,
    ⟨{ State.reset with timers := #v[Timer.zero, { Timer.zero with tcsr := { Tcsr.zero with udt := true, arht := true, enit := true } }] },
      by decide, by decide⟩,
    by decide, by decide, by decide, by decide⟩

theorem test_hyp_RunningEndsOnlyAtReset :
    (∃ t, exec (.wrTmrTcsr 0 0x1D2) pending = .next t ∧ t.resp = .silent)
    ∧ (∃ t, exec (.tclk 0) pending = .next t ∧ pending.tstate 0 = .running)
    ∧ ∃ t, exec .reset pending = .next t := ⟨⟨_, rfl, rfl⟩, ⟨_, rfl, by decide⟩, ⟨_, rfl⟩⟩

theorem test_hyp_TlrWriteLoadsAStoppedChannel :
    State.reset.tstate 1 ≠ .running ∧ booted.tstate 1 = .running := by decide

theorem test_hyp_TimerEventCountsDownOrExpires :
    State.reset.tstate 0 ≠ .running
    ∧ ({ booted with timers := #v[channel 3 0 false, channel 3 3 false] } : State).tstate 0 = .running
    ∧ (channel 3 0 false).tcr = 0
    ∧ booted.tstate 1 = .running ∧ booted.timers[(1 : Fin 2)].tcr.toNat = 2 + 1
    ∧ Agent.host ≠ Agent.timer ∧ Config.pDual.nTch.val ≤ (2 : BitVec 8).toNat := by decide

theorem test_hyp_ChannelsAreIsolated :
    ∃ t, exec (.wrTmrTcsr 0 0x1D2) pending = .next t ∧ channelOfInstr (.wrTmrTcsr 0 0x1D2) ≠ some 1 :=
  ⟨_, rfl, by decide⟩

theorem test_hyp_ExpiriesFollowThePeriodLaw : booted.tstate 0 = .running ∧ booted.tstate 1 = .running := by decide

theorem test_hyp_UnmergedExpiriesAreTheRisesOfTint : ∃ t, exec (.tclk 0) pending = .next t := ⟨_, rfl⟩

theorem test_hyp_ControllerWrites :
    (0x2 : Word).extractLsb' 1 31 ≠ 0 ∧ (0x4 : Word).extractLsb' 2 30 ≠ 0 := by decide

theorem test_hyp_EveryStepEndsWithTheLatch :
    ∃ t, step { pending with isr := false, inputs := [.host 0x0300000000000000] } = .next t
      ∧ t.hie = true ∧ t.tmrIrq = true := ⟨_, rfl, by decide, by decide⟩

theorem test_hyp_IrqFallsOnlyByTheFourWays :
    ∃ t, exec (.wrIntcIar 0x1) { booted with isr := true } = .next t
      ∧ ({ booted with isr := true } : State).irq = true ∧ t.latch.irq = false := ⟨_, rfl, by decide, by decide⟩

theorem test_hyp_AcknowledgeOrderLaw :
    (∃ t, exec (.wrIntcIar 0x1) pending = .next t ∧ pending.hie = true)
    ∧ ∃ t, exec (.wrIntcIar 0x0) pending = .next t ∧ pending.isr = true ∧ (0x0 : Word).getLsbD 0 = false :=
  ⟨⟨_, rfl, by decide⟩, ⟨_, rfl, by decide, by decide⟩⟩

theorem test_hyp_HostEnableAndBlinkFlag : Agent.seq ≠ Agent.host ∧ Agent.host ≠ Agent.seq := by decide

theorem test_hyp_PwmTickComparesTheNewPhase :
    booted.triWrittenOut = true ∧ (2 : Fin 3).val < booted.cfg.nPwm.val ∧ booted.cfg.nPwm.val ≤ 3
    ∧ State.reset.triWrittenOut = false ∧ Agent.env ≠ Agent.seq := by decide

theorem test_hyp_DutyIsTheCountOfActiveTicks :
    booted.triWrittenOut = true ∧ (2 : Fin 3).val < booted.cfg.nPwm.val := by decide

theorem test_hyp_PhaseCountsTheTicks : pending.triWrittenOut = true := by decide

theorem test_hyp_PwmChannelsAreIndependent :
    ∃ t₁ t₂ : State, exec .strobePwmTick { booted with duty := #v[5, 4, 0] } = .next t₁
      ∧ exec .strobePwmTick { pending with duty := #v[5, 0, 9], gpioOutData := 0 } = .next t₂
      ∧ ({ booted with duty := #v[5, 4, 0] } : State).phase = pending.phase := ⟨_, _, rfl, rfl, by decide⟩

theorem test_hyp_DutyAndPhaseRegisters :
    Config.pDual.nPwm.val ≤ (3 : Fin 4).val ∧ (2 : Fin 4).val < Config.pDual.nPwm.val
    ∧ (0x100 : Word).extractLsb' 8 24 ≠ 0 := by decide

theorem test_hyp_OutputLatchAccess :
    booted.triWrittenOut = true ∧ State.reset.triWrittenOut = false
    ∧ Config.pDual.nPwm.val ≤ (3 : Fin 32).val ∧ (0x8 : Word).getLsbD (3 : Fin 32).val = true := by decide

theorem test_hyp_OutputDirectionIsWrittenOnceAndReadBack :
    State.reset.triWrittenOut = false ∧ booted.triWrittenOut = true
    ∧ Config.pFsm.nPwm.val ≤ (2 : Fin 32).val ∧ (0x4 : Word).getLsbD (2 : Fin 32).val = true := by decide

theorem test_hyp_OutputPinsAreGlitchFree :
    (∃ t, exec .strobePwmTick { booted with duty := #v[255, 1, 0] } = .next t
      ∧ t.pwmPin 0 ≠ booted.pwmPin 0 ∧ t.gpioOutData ≠ booted.gpioOutData)
    ∧ (1 : Fin 3).val < (State.powerOn .pFsm).cfg.nPwm.val
    ∧ (State.powerOn .pFsm).cfg.nPwm.val ≤ (2 : Fin 3).val :=
  ⟨⟨_, rfl, by decide, by decide⟩, by decide⟩

theorem test_hyp_PwmAndBlinkStateOwners :
    ∃ t, exec (.wrCoreDuty 1 0x80) booted = .next t ∧ Instr.wrCoreDuty 1 0x80 ≠ .reset := ⟨_, rfl, by decide⟩

theorem test_hyp_HandlerEntryAtIdleNeedsIrqAndEnable :
    (({ pending with inputs := [.handler] } : State).faults = []
      ∧ ({ pending with inputs := [.handler] } : State).inputs = .handler :: []
      ∧ ({ pending with inputs := [.handler] } : State).seq = .idle
      ∧ ({ pending with inputs := [.handler] } : State).irq = true
      ∧ ({ pending with inputs := [.handler] } : State).hostIE = true)
    ∧ ((scheduled .handler).inputs = .handler :: [] ∧ (scheduled .handler).seq = .idle
      ∧ (scheduled .handler).irq = false)
    ∧ ({ pending with hostIE := false, inputs := [.handler] } : State).hostIE = false := by decide

/-- The invariant at a state in the middle of an invocation. -/
theorem serving_inv (q : Machine.Seq) (h : (serving q).HandlerSound) : (serving q).Inv :=
  { legal := show pending.cfg.Legal by decide
    inRange := show pending.InRange by decide
    directionFirst := show pending.DirectionFirst by decide
    timersSound := show pending.TimersSound by decide
    handlerSound := h
    latchSound := show pending.LatchSound by decide }

theorem dark_inv : dark.Inv :=
  { legal := by decide
    inRange := by decide
    directionFirst := by decide
    timersSound := by decide
    handlerSound := show (0 : Fin 2).val < dark.cfg.nTch.val by decide
    latchSound := by decide }

theorem serving_ack_sound (c : Fin 2) (hc : c.val < pending.cfg.nTch.val)
    (ht : pending.timers[c].tcsr.tint = true) : (serving (.ack c)).HandlerSound := ⟨hc, rfl, ht⟩

theorem test_hyp_HandlerStepsFollowTheTable :
    (serving (.rd 1)).Inv ∧ (serving (.ack 0)).Inv ∧ (serving (.act 1)).Inv ∧ (serving .iar).Inv
    ∧ (serving .ret).Inv
    ∧ ((serving (.act 0)).Inv ∧ (serving (.act 0)).cfg.chAction[(0 : Fin 2)] = .pwmTick
      ∧ (serving (.act 0)).triWrittenOut = true)
    ∧ (dark.Inv ∧ dark.seq = .act 0 ∧ dark.cfg.chAction[(0 : Fin 2)] = .pwmTick ∧ dark.triWrittenOut = false) :=
  ⟨serving_inv _ (show (1 : Fin 2).val < pending.cfg.nTch.val by decide),
    serving_inv _ (serving_ack_sound 0 (by decide) (by decide)),
    serving_inv _ (show (1 : Fin 2).val < pending.cfg.nTch.val by decide),
    serving_inv _ trivial, serving_inv _ trivial,
    ⟨serving_inv _ (show (0 : Fin 2).val < pending.cfg.nTch.val by decide), by decide, rfl⟩,
    ⟨dark_inv, rfl, by decide, rfl⟩⟩

theorem test_hyp_FaultsAreThoseOfTheTable :
    (serving .iar).Inv ∧ (∀ c, (serving .iar).seq ≠ .act c) ∧ ∃ t, handlerStep (serving .iar) = .next t :=
  ⟨serving_inv _ trivial, by decide, ⟨_, rfl⟩⟩

theorem test_hyp_HandlerNeverWritesTheHostsState :
    (serving (.act 0)).Inv ∧ ∃ t, handlerStep (serving (.act 0)) = .next t :=
  ⟨serving_inv _ (show (0 : Fin 2).val < pending.cfg.nTch.val by decide), ⟨_, rfl⟩⟩

theorem test_hyp_WhileTheHandlerRunsItSteps :
    (serving .ret).faults = [] ∧ (serving .ret).seq ≠ .idle
    ∧ ({ serving .ret with inputs := [.handler] } : State).inputs = .handler :: []
    ∧ ({ serving .ret with inputs := [.host 0x5000000000000001] } : State).inputs
        = .host 0x5000000000000001 :: [] := by decide

theorem test_hyp_InvocationServesAllAndIsBounded :
    (serving .idle).Inv ∧ (serving .idle).faults = [] ∧ (serving .idle).irq = true
    ∧ (serving .idle).triWrittenOut = true
    ∧ 8 < 3 + (serving .idle).cfg.nTch.val + 2 * (serving .idle).pendingChannels :=
  ⟨serving_inv _ trivial, by decide, by decide, by decide, by decide⟩

theorem test_hyp_ResetGivesEveryElementItsResetValue : Agent.host ≠ Agent.env := by decide

theorem test_hyp_PowerOnMeetsTheInvariant :
    Config.pDual.Legal ∧ Config.pPwm.Legal ∧ Config.pFsm.Legal ∧ wide.Legal := by decide

theorem test_hyp_EveryStepKeepsTheBlockInvariant :
    ({ serving (.ack 1) with inputs := [.handler] } : State).Inv
    ∧ ∃ t, step { serving (.ack 1) with inputs := [.handler] } = .next t :=
  ⟨{ legal := by decide
     inRange := by decide
     directionFirst := by decide
     timersSound := by decide
     handlerSound := serving_ack_sound 1 (by decide) (by decide)
     latchSound := by decide }, ⟨_, rfl⟩⟩

theorem test_hyp_PendingFlagMeansRunning :
    (∀ c : Fin 2, pending.timers[c].tcsr.tint = true → pending.tstate c = .running)
    ∧ pending.timers[(0 : Fin 2)].tcsr.tint = true
    ∧ ∃ t, step { pending with inputs := [.timer 0x3000000000000000] } = .next t :=
  ⟨by decide, by decide, ⟨_, rfl⟩⟩

theorem test_hyp_EveryStepKeepsReservedBitsZero :
    booted.InRange ∧ ∃ t, step { booted with inputs := [.host 0x14000018000000FF] } = .next t :=
  ⟨by decide, ⟨_, rfl⟩⟩

end Sys2Proof.Tests
end

section
/-! PROOFS. Every word the decoder accepts is a well-formed operation (30_encoding R88), every well-formed operation keeps the
reserved bits at 0 and the absent elements at their reset value (10_state R23), and so does every step. -/

namespace Sys2Proof

/-! ### What the decoder accepts is well-formed -/

theorem readOp_wellFormed {cfg : Config} {r : Reg} {i : Instr} (h : readOp cfg r = .op i) :
    wellFormed cfg i = true := by
  cases r with
  | tcsr c | tlr c | tcr c | duty c =>
    simp only [readOp] at h
    split at h <;> cases h
    simpa [wellFormed]
  | _ => cases h <;> rfl

theorem writeOp_wellFormed {cfg : Config} {d : Word} {r : Reg} {i : Instr} (hd : r.setsReserved cfg d = false)
    (h : writeOp cfg d r = .op i) : wellFormed cfg i = true := by
  cases r with
  | tcsr c | tlr c | duty c =>
    simp only [writeOp] at h
    split at h <;> cases h
    next hc => simp [wellFormed, hc, hd]
  | _ => cases h <;> simp [wellFormed, hd]

theorem decodeSample_wellFormed {cfg : Config} {s : BitVec 8} {d : Word} {i : Instr}
    (h : decodeSample cfg s d = .op i) : wellFormed cfg i = true := by
  unfold decodeSample at h
  split at h
  · split at h <;> cases h
    simpa [wellFormed]
  · cases h

theorem decodeTclk_wellFormed {cfg : Config} {s : BitVec 8} {d : Word} {i : Instr}
    (h : decodeTclk cfg s d = .op i) : wellFormed cfg i = true := by
  unfold decodeTclk at h
  split at h
  · split at h <;> cases h
    simpa [wellFormed]
  · cases h

theorem decodeStrobe_wellFormed {cfg : Config} {s : BitVec 8} {d : Word} {i : Instr}
    (h : decodeStrobe s d = .op i) : wellFormed cfg i = true := by
  unfold decodeStrobe at h
  split at h
  · cases h
  · split at h
    · cases h
    · split at h <;> cases h <;> rfl

theorem decodeSetIe_wellFormed {cfg : Config} {s : BitVec 8} {d : Word} {i : Instr}
    (h : decodeSetIe s d = .op i) : wellFormed cfg i = true := by
  unfold decodeSetIe at h
  split at h <;> cases h
  rfl

theorem decodeReset_wellFormed {cfg : Config} {s : BitVec 8} {d : Word} {i : Instr}
    (h : decodeReset s d = .op i) : wellFormed cfg i = true := by
  unfold decodeReset at h
  split at h <;> cases h
  rfl

/-- The case of a kind that names no register answers only where `UNIT` = 0 (30_encoding R88). -/
theorem op_of_unit_zero {u : BitVec 4} {x : Decoded} {i : Instr}
    (h : (if u ≠ 0 then .refuse .reservedUnit else x) = Decoded.op i) : x = .op i := by
  split at h
  · cases h
  · exact h

/-- The decoder checks every index and every reserved data bit (30_encoding R88). -/
theorem decode_wellFormed {cfg : Config} {a : Agent} {T : Txn} {i : Instr} (h : decode cfg a T = .op i) :
    wellFormed cfg i = true := by
  obtain ⟨k, -, -, -, hk⟩ := decode_op h
  cases k with
  | rd =>
    obtain ⟨r, -, -, -, hr⟩ := decodeRd_op hk
    exact readOp_wellFormed hr
  | wr =>
    obtain ⟨r, -, -, hd, hr⟩ := decodeWr_op hk
    exact writeOp_wellFormed hd hr
  | sample => exact decodeSample_wellFormed (op_of_unit_zero hk)
  | tclk => exact decodeTclk_wellFormed (op_of_unit_zero hk)
  | strobe => exact decodeStrobe_wellFormed (op_of_unit_zero hk)
  | setie => exact decodeSetIe_wellFormed (op_of_unit_zero hk)
  | reset => exact decodeReset_wellFormed (op_of_unit_zero hk)

namespace Machine

/-! ### Updates that keep the range -/

/-- Writing an existing entry leaves the entries at or above the count alone. -/
theorem set_existing_getElem_absent {α : Type} {n m : Nat} (xs : Vector α n) {i j : Fin n} (x : α)
    (hi : i.val < m) (hj : m ≤ j.val) : (xs.set i x)[j] = xs[j] :=
  Vector.getElem_set_ne _ _ (by omega)

theorem State.InRange.setDb {s : State} (hs : s.InRange) {i : Fin 32} (hi : i.val < s.cfg.nLines.val) (x : DbState) :
    ({ s with db := s.db.set i x } : State).InRange := by
  obtain ⟨hin, hdata, htri, hdb, hduty, htmr⟩ := hs
  exact ⟨hin, hdata, htri,
    fun j hj => (set_existing_getElem_absent s.db x hi hj).trans (hdb j hj), hduty, htmr⟩

theorem State.InRange.setDuty {s : State} (hs : s.InRange) {k : Fin 3} (hk : k.val < s.cfg.nPwm.val) (x : Byte) :
    ({ s with duty := s.duty.set k x } : State).InRange := by
  obtain ⟨hin, hdata, htri, hdb, hduty, htmr⟩ := hs
  exact ⟨hin, hdata, htri, hdb,
    fun j hj => (set_existing_getElem_absent s.duty x hk hj).trans (hduty j hj), htmr⟩

theorem State.InRange.setTimer {s : State} (hs : s.InRange) {c : Fin 2} (hc : c.val < s.cfg.nTch.val) (x : Timer) :
    (s.setTimer c x).InRange := by
  obtain ⟨hin, hdata, htri, hdb, hduty, htmr⟩ := hs
  refine ⟨hin, hdata, htri, hdb, hduty, fun j hj => ?_⟩
  obtain ⟨ht, hcount⟩ := htmr j hj
  exact ⟨(set_existing_getElem_absent s.timers x hc hj).trans ht, hcount⟩

theorem State.InRange.expire {s : State} (hs : s.InRange) {c : Fin 2} (hc : c.val < s.cfg.nTch.val) :
    (s.expire c).InRange := by
  obtain ⟨hin, hdata, htri, hdb, hduty, htmr⟩ := hs
  refine ⟨hin, hdata, htri, hdb, hduty, fun j hj => ?_⟩
  obtain ⟨ht, he, hm⟩ := htmr j hj
  exact ⟨(set_existing_getElem_absent s.timers _ hc hj).trans ht,
    (set_existing_getElem_absent s.expired _ hc hj).trans he,
    (set_existing_getElem_absent s.merged _ hc hj).trans hm⟩

theorem State.InRange.setGpioInTri {s : State} (hs : s.InRange) (d : Word) (b : Bool) :
    ({ s with gpioInTri := d &&& lowMask s.cfg.nLines.val, triWrittenIn := b } : State).InRange := by
  obtain ⟨-, hrest⟩ := hs
  exact ⟨and_and_not_mask _ _, hrest⟩

theorem State.InRange.setGpioOutTri {s : State} (hs : s.InRange) (d : Word) (b : Bool) :
    ({ s with gpioOutTri := d &&& lowMask s.cfg.nPwm.val, triWrittenOut := b } : State).InRange := by
  obtain ⟨hin, hdata, -, hrest⟩ := hs
  exact ⟨hin, hdata, and_and_not_mask _ _, hrest⟩

theorem State.InRange.setGpioOutData {s : State} (hs : s.InRange) (d : Word) :
    ({ s with gpioOutData := d &&& lowMask s.cfg.nPwm.val } : State).InRange := by
  obtain ⟨hin, -, hrest⟩ := hs
  exact ⟨hin, and_and_not_mask _ _, hrest⟩

/-- RESET masks the three port registers and writes whole vectors; the expiry counters are kept (70_reset_and_hazards R240). -/
theorem State.InRange.blockReset {s : State} (hs : s.InRange) : s.blockReset.InRange := by
  obtain ⟨-, -, -, -, -, htmr⟩ := hs
  refine ⟨mask_and_not_mask _, and_and_not_mask _ _, mask_and_not_mask _,
    fun j _ => ?_, fun j _ => ?_, fun j hj => ⟨?_, (htmr j hj).2⟩⟩ <;>
  exact Vector.getElem_replicate _

/-! ### Every operation the decoder accepts, and every step -/

theorem wrTmrTcsr_inRange {c : Fin 2} {d : Word} {s t : State} (hs : s.InRange) (hc : c.val < s.cfg.nTch.val)
    (h : exec (.wrTmrTcsr c d) s = .next t) : t.InRange := by
  obtain ⟨rfl, -⟩ | ⟨rfl, -⟩ | ⟨rfl, -⟩ | ⟨rfl, -⟩ := wrTmrTcsr_cases h
  · exact hs.setTimer hc _
  all_goals exact hs

theorem wrTmrTlr_inRange {c : Fin 2} {d : Word} {s t : State} (hs : s.InRange) (hc : c.val < s.cfg.nTch.val)
    (h : exec (.wrTmrTlr c d) s = .next t) : t.InRange := by
  simp only [exec, execWrTmrTlr] at h
  split at h <;> cases h
  · exact hs
  · exact hs.setTimer hc _

theorem tclk_inRange {c : Fin 2} {s t : State} (hs : s.InRange) (hc : c.val < s.cfg.nTch.val)
    (h : exec (.tclk c) s = .next t) : t.InRange := by
  simp only [exec, execTclk] at h
  split at h
  · split at h <;> cases h
    · exact hs.expire hc
    · exact hs.setTimer hc _
  · cases h
    exact hs

theorem sample_inRange {i : Fin 32} {raw : Bool} {s t : State} (hs : s.InRange) (hi : i.val < s.cfg.nLines.val)
    (h : exec (.sample i raw) s = .next t) : t.InRange := by
  simp only [exec, execSample] at h
  split at h <;> cases h
  · exact hs.setDb hi _
  · exact hs

/-- A well-formed operation leaves the reserved bits 0 and the absent elements at their reset value (10_state R23; log 18). -/
theorem exec_inRange {i : Instr} {s t : State} (hs : s.InRange) (hi : wellFormed s.cfg i = true)
    (h : exec i s = .next t) : t.InRange := by
  cases i with
  | wrTmrTcsr c d => exact wrTmrTcsr_inRange hs (by simp_all [wellFormed]) h
  | wrTmrTlr c d => exact wrTmrTlr_inRange hs (by simp_all [wellFormed]) h
  | tclk c => exact tclk_inRange hs (by simpa [wellFormed] using hi) h
  | sample n raw => exact sample_inRange hs (by simpa [wellFormed] using hi) h
  | wrCoreDuty k d =>
    cases h
    exact hs.setDuty (by simp_all [wellFormed]) _
  | wrGpioInTri d =>
    simp only [exec, execWrGpioInTri] at h
    split at h <;> cases h
    · exact hs
    · exact hs.setGpioInTri d true
  | wrGpioOutTri d =>
    simp only [exec, execWrGpioOutTri] at h
    split at h <;> cases h
    · exact hs
    · exact hs.setGpioOutTri d true
  | wrGpioOutData d =>
    simp only [exec, execWrGpioOutData] at h
    split at h <;> cases h
    · exact hs.setGpioOutData d
    · exact hs
  | strobePwmTick =>
    simp only [exec, execStrobePwmTick] at h
    split at h <;> cases h
    · exact hs.setGpioOutData _
    · exact hs
  | reset =>
    cases h
    exact hs.blockReset
  | rdGpioInData | rdGpioOutData =>
    simp only [exec, execRdGpioInData, execRdGpioOutData] at h
    split at h <;> cases h <;> exact hs
  | _ =>
    cases h
    exact hs

theorem step_keeps_cfg {s t : State} (h : step s = .next t) : t.cfg = s.cfg := by
  obtain ⟨u, q, w, rest, rfl, rfl | ⟨r, a, rfl⟩ | ⟨i, T, a, -, hx⟩⟩ := step_effect h
  · rfl
  · rfl
  · exact (exec_keeps hx).1

theorem step_inRange {s t : State} (h : step s = .next t) (hs : s.InRange) : t.InRange := by
  obtain ⟨u, q, w, rest, rfl, rfl | ⟨r, a, rfl⟩ | ⟨i, T, a, hi, hx⟩⟩ := step_effect h
  · exact hs
  · exact hs
  · have hu : u.InRange := exec_inRange (s := { s with inputs := rest, issuer := a }) hs (decode_wellFormed hi) hx
    exact hu

/-- Settles O58: the decoder accepts only well-formed operations, and each of them keeps the range. -/
theorem everyStepKeepsReservedBitsZero : Obligations.EveryStepKeepsReservedBitsZero :=
  fun _ _ h => ⟨step_keeps_cfg h, step_inRange h⟩

end Machine
end Sys2Proof
end

section
/-! PROOFS. The statements of 10_state: reserved bits, the fault and refusal records, the expiry counters, and the owners
of the PWM, blink and host-enable state. The layer they share is `exec_cases`: an operation faults, is refused, or
completes, and then `Completes` says what it leaves alone. -/

namespace Sys2Proof

/-! ### The values a RD responds stay inside the implemented bits (10_state R23) -/

theorem byte_reserved_zero (b : Byte) : b.setWidth 32 &&& ~~~(0xFF : Word) = 0 := by
  have hmask : (0xFF : Word) = (BitVec.allOnes 8).setWidth 32 := by decide
  ext j hj
  simp only [hmask, BitVec.getElem_and, BitVec.getElem_not, BitVec.getElem_setWidth, BitVec.getLsbD_allOnes]
  by_cases h8 : j < 8
  · simp [h8]
  · simp [BitVec.getLsbD_of_ge b j (Nat.le_of_not_lt h8)]

theorem word_reserved_zero (w : Word) : w &&& ~~~(0xFFFFFFFF : Word) = 0 := by
  rw [show ~~~(0xFFFFFFFF : Word) = 0 by decide]
  exact BitVec.and_zero

/-- A WR whose data sets a reserved bit is refused by the decoder (30_encoding R88). -/
theorem decode_encodeWr_reserved {cfg : Config} {a : Agent} {r : Reg} {d : Word} {i : Instr}
    (ha : a = .host ∨ a = .seq) (hop : writeOp cfg d r = .op i) (hd : r.setsReserved cfg d = true) :
    decode cfg a (encodeWr r d) = .refuse .reservedDataBits := by
  rw [decode_encodeWr cfg a ha, hop]
  exact if_pos hd

namespace Machine

theorem flagWord_reserved_zero (b : Bool) : flagWord b &&& ~~~(0x1 : Word) = 0 := by
  revert b; decide

theorem merWord_reserved_zero (s : State) : s.merWord &&& ~~~(0x3 : Word) = 0 := by
  unfold State.merWord
  generalize s.hie = hie
  generalize s.me = me
  revert hie me; decide

theorem Tcsr.toWord_reserved_zero (x : Tcsr) : x.toWord &&& ~~~tcsrMask = 0 := by
  rcases x with ⟨udt, arht, load, enit, ent, tint⟩
  revert udt arht load enit ent tint; decide

/-- The response of every RD is 0 outside the implemented bits of its register (10_state R23). -/
theorem rd_reserved_zero {i : Instr} {s t : State} {v : Word} (hi : i.kind = .rd) (h : exec i s = .next t)
    (hv : t.resp = .value v) : v &&& ~~~(readBits s.cfg i) = 0 := by
  cases i with
  | rdGpioInData | rdGpioOutData =>
    simp only [exec, execRdGpioInData, execRdGpioOutData] at h
    split at h <;> cases h <;> cases hv
    exact and_and_not_mask _ _
  | rdGpioInTri | rdGpioOutTri | rdCoreDbState => cases h; cases hv; exact and_and_not_mask _ _
  | rdTmrTcsr c => cases h; cases hv; exact Tcsr.toWord_reserved_zero _
  | rdTmrTlr c | rdTmrTcr c => cases h; cases hv; exact word_reserved_zero _
  | rdIntcMer => cases h; cases hv; exact merWord_reserved_zero s
  | rdCorePhase | rdCoreDuty k => cases h; cases hv; exact byte_reserved_zero _
  | rdIntcIsr | rdIntcIpr | rdIntcIer | rdCoreBlink => cases h; cases hv; exact flagWord_reserved_zero _
  | _ => cases hi

theorem transaction_of_refuse {a : Agent} {T : Txn} {s : State} {r : RefuseReason}
    (h : decode s.cfg a T = .refuse r) : transaction a T s = .next (({ s with issuer := a } : State).refuse r) := by
  simp only [transaction, h]

/-- Settles O7: the responses by the register read, the refusal by the decoder. -/
theorem reservedBitsReadZeroAndAreNotWritten : Obligations.ReservedBitsReadZeroAndAreNotWritten :=
  ⟨fun _ _ _ _ hi h hv => rd_reserved_zero hi h hv,
    fun _ _ _ _ _ ha hop hd => transaction_of_refuse (decode_encodeWr_reserved ha hop hd)⟩

/-! ### What an operation can do: fault, be refused, or complete -/

/-- Everything a timer event can do (41_timer R126). -/
theorem tclk_cases {c : Fin 2} {s t : State} (h : exec (.tclk c) s = .next t) :
    (s.tstate c ≠ .running ∧ t = s.complete)
    ∨ (s.tstate c = .running ∧ s.timers[c].tcr = 0 ∧ t = (s.expire c).complete)
    ∨ (s.tstate c = .running ∧ s.timers[c].tcr ≠ 0
      ∧ t = (s.setTimer c { s.timers[c] with tcr := s.timers[c].tcr - 1 }).complete) := by
  simp only [exec, execTclk] at h
  split at h
  · rename_i hrun
    split at h <;> cases h
    · rename_i hzero
      exact .inr (.inl ⟨hrun, hzero, rfl⟩)
    · rename_i hcount
      exact .inr (.inr ⟨hrun, hcount, rfl⟩)
  · rename_i hidle
    cases h
    exact .inl ⟨hidle, rfl⟩

/-- What an operation that neither faults nor is refused leaves alone: the two records, the expiry counters but for an
expiry, the sequencer, and what has one owner beside RESET (10_state R43 to R47, R52). -/
structure Completes (i : Instr) (s t : State) : Prop where
  faults : t.faults = s.faults
  refused : t.refused = s.refused
  counters : (t.expired = s.expired ∧ t.merged = s.merged)
    ∨ ∃ c, i = .tclk c ∧ s.tstate c = .running ∧ s.timers[c].tcr = 0 ∧ t = (s.expire c).complete
  phase : i ≠ .reset → i ≠ .strobePwmTick → t.phase = s.phase
  blink : i ≠ .reset → i ≠ .strobeBlinkToggle → t.blink = s.blink
  duty : i ≠ .reset → ∀ k : Fin 3, (∀ d, i ≠ .wrCoreDuty k d) → t.duty[k] = s.duty[k]
  hostIE : i ≠ .reset → (∀ v, i ≠ .setIe v) → t.hostIE = s.hostIE
  sequencer : i ≠ .reset → t.seq = s.seq ∧ t.v = s.v

/-- An operation that changes only the ports, the channels, the controller, the lines and the response. -/
theorem Completes.of_frame {i : Instr} {s t : State}
    (h : t = { s with
      gpioInTri := t.gpioInTri, triWrittenIn := t.triWrittenIn, gpioOutData := t.gpioOutData
      gpioOutTri := t.gpioOutTri, triWrittenOut := t.triWrittenOut, timers := t.timers
      isr := t.isr, ier := t.ier, me := t.me, hie := t.hie, db := t.db, resp := t.resp, draws := t.draws }) :
    Completes i s t where
  faults := by rw [h]
  refused := by rw [h]
  counters := .inl ⟨by rw [h], by rw [h]⟩
  phase _ _ := by rw [h]
  blink _ _ := by rw [h]
  duty _ k _ := by rw [h]
  hostIE _ _ := by rw [h]
  sequencer _ := ⟨by rw [h], by rw [h]⟩

theorem completes_strobePwmTick {s : State} (p : Byte) (w : Word) :
    Completes .strobePwmTick s ({ s with phase := p, gpioOutData := w } : State).complete :=
  ⟨rfl, rfl, .inl ⟨rfl, rfl⟩, fun _ h => absurd rfl h, fun _ _ => rfl, fun _ _ _ => rfl, fun _ _ => rfl,
    fun _ => ⟨rfl, rfl⟩⟩

theorem completes_strobeBlinkToggle {s : State} (b : Bool) :
    Completes .strobeBlinkToggle s ({ s with blink := b } : State).complete :=
  ⟨rfl, rfl, .inl ⟨rfl, rfl⟩, fun _ _ => rfl, fun _ h => absurd rfl h, fun _ _ _ => rfl, fun _ _ => rfl,
    fun _ => ⟨rfl, rfl⟩⟩

theorem completes_setIe {s : State} (v : Bool) : Completes (.setIe v) s ({ s with hostIE := v } : State).complete :=
  ⟨rfl, rfl, .inl ⟨rfl, rfl⟩, fun _ _ => rfl, fun _ _ => rfl, fun _ _ _ => rfl, fun _ h => absurd rfl (h v),
    fun _ => ⟨rfl, rfl⟩⟩

theorem completes_wrCoreDuty {s : State} (k : Fin 3) (d : Word) (x : Byte) :
    Completes (.wrCoreDuty k d) s ({ s with duty := s.duty.set k x } : State).complete := by
  refine ⟨rfl, rfl, .inl ⟨rfl, rfl⟩, fun _ _ => rfl, fun _ _ => rfl, fun _ k' hk' => ?_, fun _ _ => rfl,
    fun _ => ⟨rfl, rfl⟩⟩
  have hne : k.val ≠ k'.val := fun e => hk' d (by rw [Fin.ext e])
  exact Vector.getElem_set_ne k.isLt k'.isLt hne

theorem completes_expire {s : State} {c : Fin 2} (hrun : s.tstate c = .running) (hzero : s.timers[c].tcr = 0) :
    Completes (.tclk c) s (s.expire c).complete :=
  ⟨rfl, rfl, .inr ⟨c, rfl, hrun, hzero, rfl⟩, fun _ _ => rfl, fun _ _ => rfl, fun _ _ _ => rfl, fun _ _ => rfl,
    fun _ => ⟨rfl, rfl⟩⟩

theorem completes_reset (s : State) : Completes .reset s s.blockReset.complete :=
  ⟨rfl, rfl, .inl ⟨rfl, rfl⟩, fun h => absurd rfl h, fun h => absurd rfl h, fun h => absurd rfl h,
    fun h => absurd rfl h, fun h => absurd rfl h⟩

/-- Everything an operation can do (60_exceptions R204). -/
theorem exec_cases {i : Instr} {s t : State} (h : exec i s = .next t) :
    (∃ code, t = s.raiseFault code i) ∨ (∃ r, t = s.refuse r) ∨ Completes i s t := by
  cases i with
  | rdGpioInData | rdGpioOutData | wrGpioOutData d | sample n raw =>
    simp only [exec, execRdGpioInData, execRdGpioOutData, execWrGpioOutData, execSample] at h
    split at h <;> cases h
    · exact .inr (.inr (.of_frame rfl))
    · exact .inl ⟨_, rfl⟩
  | wrGpioInTri d | wrGpioOutTri d | wrTmrTlr c d =>
    simp only [exec, execWrGpioInTri, execWrGpioOutTri, execWrTmrTlr] at h
    split at h <;> cases h
    · exact .inl ⟨_, rfl⟩
    · exact .inr (.inr (.of_frame rfl))
  | wrTmrTcsr c d =>
    obtain ⟨rfl, -⟩ | ⟨rfl, -⟩ | ⟨rfl, -⟩ | ⟨rfl, -⟩ := wrTmrTcsr_cases h
    · exact .inr (.inr (.of_frame rfl))
    · exact .inl ⟨_, rfl⟩
    · exact .inr (.inl ⟨_, rfl⟩)
    · exact .inl ⟨_, rfl⟩
  | tclk c =>
    obtain ⟨-, rfl⟩ | ⟨hrun, hzero, rfl⟩ | ⟨-, -, rfl⟩ := tclk_cases h
    · exact .inr (.inr (.of_frame rfl))
    · exact .inr (.inr (completes_expire hrun hzero))
    · exact .inr (.inr (.of_frame rfl))
  | strobePwmTick =>
    simp only [exec, execStrobePwmTick] at h
    split at h <;> cases h
    · exact .inr (.inr (completes_strobePwmTick _ _))
    · exact .inl ⟨_, rfl⟩
  | strobeBlinkToggle => cases h; exact .inr (.inr (completes_strobeBlinkToggle _))
  | setIe v => cases h; exact .inr (.inr (completes_setIe v))
  | wrCoreDuty k d => cases h; exact .inr (.inr (completes_wrCoreDuty k d _))
  | reset => cases h; exact .inr (.inr (completes_reset s))
  | _ => cases h; exact .inr (.inr (.of_frame rfl))

/-! ### FAULTS and REFUSED -/

theorem exec_records_stay {i : Instr} {s t : State} (h : exec i s = .next t) :
    s.faults <+: t.faults ∧ (s.refused = true → t.refused = true) := by
  obtain ⟨code, rfl⟩ | ⟨r, rfl⟩ | hc := exec_cases h
  · exact ⟨List.prefix_append _ _, id⟩
  · exact ⟨List.prefix_rfl, fun _ => rfl⟩
  · rw [hc.faults, hc.refused]
    exact ⟨List.prefix_rfl, id⟩

theorem step_records_stay {s t : State} (h : step s = .next t) :
    s.faults <+: t.faults ∧ (s.refused = true → t.refused = true) := by
  obtain ⟨u, q, w, rest, rfl, rfl | ⟨r, a, rfl⟩ | ⟨i, T, a, -, hx⟩⟩ := step_effect h
  · exact ⟨List.prefix_rfl, id⟩
  · exact ⟨List.prefix_rfl, fun _ => rfl⟩
  · have hu := exec_records_stay hx
    exact hu

/-- Settles O13: a fault appends, a refusal sets, and nothing else touches either record. -/
theorem faultsAndRefusedAreNeverCleared : Obligations.FaultsAndRefusedAreNeverCleared :=
  ⟨fun _ => ⟨rfl, rfl⟩, fun _ _ h => step_records_stay h⟩

/-! ### EXPIRED and MERGED -/

@[simp] theorem State.expire_expired (s : State) (c : Fin 2) :
    (s.expire c).expired = s.expired.set c (s.expired[c] + 1) := rfl

@[simp] theorem State.expire_merged (s : State) (c : Fin 2) :
    (s.expire c).merged = s.merged.set c (if s.timers[c].tcsr.tint then s.merged[c] + 1 else s.merged[c]) := rfl

/-- Only an expiry moves the counters (41_timer R126). -/
theorem exec_counters {i : Instr} {s t : State} (h : exec i s = .next t) :
    (t.expired = s.expired ∧ t.merged = s.merged)
    ∨ ∃ c, i = .tclk c ∧ s.tstate c = .running ∧ s.timers[c].tcr = 0 ∧ t = (s.expire c).complete := by
  obtain ⟨code, rfl⟩ | ⟨r, rfl⟩ | hc := exec_cases h
  · exact .inl ⟨rfl, rfl⟩
  · exact .inl ⟨rfl, rfl⟩
  · exact hc.counters

/-- A counter that is written at one channel with no less than it held is nowhere less. -/
theorem channel_le_set (xs : Vector Nat 2) (c c' : Fin 2) {x : Nat} (hx : xs[c] ≤ x) : xs[c'] ≤ (xs.set c x)[c'] := by
  by_cases hc : c = c'
  · subst hc
    rwa [channel_set_self]
  · exact Nat.le_of_eq (channel_set_ne xs x hc).symm

theorem State.expire_counters_grow (s : State) (c c' : Fin 2) :
    s.expired[c'] ≤ (s.expire c).expired[c'] ∧ s.merged[c'] ≤ (s.expire c).merged[c'] := by
  refine ⟨channel_le_set _ _ _ (Nat.le_succ _), channel_le_set _ _ _ ?_⟩
  split
  · exact Nat.le_succ _
  · exact Nat.le_refl _

theorem exec_counters_grow {i : Instr} {s t : State} (h : exec i s = .next t) (c : Fin 2) :
    s.expired[c] ≤ t.expired[c] ∧ s.merged[c] ≤ t.merged[c] := by
  obtain ⟨he, hm⟩ | ⟨c', -, -, -, rfl⟩ := exec_counters h
  · rw [he, hm]
    exact ⟨Nat.le_refl _, Nat.le_refl _⟩
  · exact s.expire_counters_grow c' c

theorem step_counters_grow {s t : State} (h : step s = .next t) (c : Fin 2) :
    s.expired[c] ≤ t.expired[c] ∧ s.merged[c] ≤ t.merged[c] := by
  obtain ⟨u, q, w, rest, rfl, rfl | ⟨r, a, rfl⟩ | ⟨i, T, a, -, hx⟩⟩ := step_effect h
  · exact ⟨Nat.le_refl _, Nat.le_refl _⟩
  · exact ⟨Nat.le_refl _, Nat.le_refl _⟩
  · exact exec_counters_grow hx c

/-- A counter of channel c that moved names the expiry: no other channel's event writes it (41_timer R126, R127). -/
theorem counter_moved_is_expiry {i : Instr} {s t : State} {c : Fin 2} (h : exec i s = .next t)
    (hmoved : t.expired[c] ≠ s.expired[c] ∨ t.merged[c] ≠ s.merged[c]) :
    i = .tclk c ∧ s.tstate c = .running ∧ s.timers[c].tcr = 0 ∧ t.expired[c] = s.expired[c] + 1 := by
  obtain ⟨he, hm⟩ | ⟨c', rfl, hrun, hzero, rfl⟩ := exec_counters h
  · simp [he, hm] at hmoved
  · by_cases hc : c' = c
    · subst hc
      exact ⟨rfl, hrun, hzero, by simp⟩
    · rw [State.complete_expired, State.complete_merged, State.expire_expired, State.expire_merged,
        channel_set_ne _ _ hc, channel_set_ne _ _ hc] at hmoved
      simp at hmoved

/-- Settles O14: the counters move only at an expiry, and an expiry only adds. -/
theorem expiryCountersOnlyGrow : Obligations.ExpiryCountersOnlyGrow :=
  ⟨fun _ _ h c => step_counters_grow h c, fun _ _ _ _ h hmoved => counter_moved_is_expiry h hmoved⟩

/-! ### The owners of PHASE, BLINK, DUTY and HOST_IE -/

/-- Settles O47: a fault and a refusal write none of them, and a completed operation only what it owns. -/
theorem pwmAndBlinkStateOwners : Obligations.PwmAndBlinkStateOwners := by
  intro i s t h hreset
  obtain ⟨code, rfl⟩ | ⟨r, rfl⟩ | hc := exec_cases h
  · exact ⟨fun _ => rfl, fun _ => rfl, fun _ _ => rfl, fun _ => rfl, rfl, rfl⟩
  · exact ⟨fun _ => rfl, fun _ => rfl, fun _ _ => rfl, fun _ => rfl, rfl, rfl⟩
  · exact ⟨hc.phase hreset, hc.blink hreset, hc.duty hreset, hc.hostIE hreset, hc.sequencer hreset⟩

end Machine
end Sys2Proof
end

section
/-! PROOFS. The statements of 20_memory: what names no register, what a read and a repeated write leave alone, and which
agent's step a step of the machine is. -/

namespace Sys2Proof

/-! ### Offsets outside the register map (20_memory R65, R66) -/

theorem RegUnit.code_injective {u v : RegUnit} (h : u.code = v.code) : u = v := by
  revert h; cases u <;> cases v <;> decide

/-- The table of offsets lists every register under its unit. -/
theorem offset_mem_offsetsOf (r : Reg) : r.offset ∈ Machine.offsetsOf r.unit := by
  cases r with
  | tcsr c | tlr c | tcr c | duty c => revert c; decide
  | _ => decide

theorem regAt_eq_none_of_unlisted {u : RegUnit} {s : BitVec 8} (h : s ∉ Machine.offsetsOf u) :
    regAt u.code s = none := by
  refine Option.eq_none_iff_forall_ne_some.2 fun r hr => h ?_
  obtain ⟨hu, rfl⟩ := unit_offset_of_regAt hr
  rw [RegUnit.code_injective hu]
  exact offset_mem_offsetsOf r

theorem regAt_eq_none_of_misaligned {u : BitVec 4} {s : BitVec 8} (h : s.toNat % 4 ≠ 0) : regAt u s = none := by
  refine Option.eq_none_iff_forall_ne_some.2 fun r hr => h ?_
  obtain ⟨-, rfl⟩ := unit_offset_of_regAt hr
  exact offset_aligned r

/-- The kinds below 2 are the two register accesses (30_encoding R81). -/
theorem ofCode_of_lt_two {k : BitVec 4} (h : k.toNat < 2) : Kind.ofCode k = some .rd ∨ Kind.ofCode k = some .wr := by
  revert k; decide

/-- A register access whose offset names no register is refused, in either direction (30_encoding R88). -/
theorem decode_of_regAt_none {cfg : Config} {a : Agent} {T : Txn} (ha : a = .host ∨ a = .seq)
    (hk : T.kindField.toNat < 2) (hrsv : T.rsv = 0) (hu : T.unitField.toNat < 5)
    (hr : regAt T.unitField T.sel = none) : decode cfg a T = .refuse .noSuchRegister := by
  have hu : ¬ 5 ≤ T.unitField.toNat := Nat.not_le.2 hu
  have hissue : mayIssue a .rd = true ∧ mayIssue a .wr = true := by rcases ha with rfl | rfl <;> decide
  obtain hK | hK := ofCode_of_lt_two hk
  · simp [decode, hK, hrsv, hissue, decodeKind, decodeRd, hu, hr]
  · simp [decode, hK, hrsv, hissue, decodeKind, decodeWr, hu, hr]

theorem RegUnit.code_lt_five (u : RegUnit) : u.code.toNat < 5 := by cases u <;> decide

/-- Settles O5: the register map finds nothing at the offset, or the row lacks the direction. -/
theorem onlyTheMapNamesRegisters : Obligations.OnlyTheMapNamesRegisters := by
  refine ⟨fun cfg a T u ha hk hrsv hu hs => ?_, fun cfg a T ha hk hrsv hu hs => ?_, fun cfg a D c ha => ?_⟩
  · exact decode_of_regAt_none ha hk hrsv (hu ▸ u.code_lt_five) (hu ▸ regAt_eq_none_of_unlisted hs)
  · exact decode_of_regAt_none ha hk hrsv hu (regAt_eq_none_of_misaligned hs)
  · exact ⟨decode_encodeRd cfg a ha .iar, decode_encodeWr cfg a ha .gpioInData D, decode_encodeWr cfg a ha (.tcr c) D,
      decode_encodeWr cfg a ha .isr D, decode_encodeWr cfg a ha .ipr D, decode_encodeWr cfg a ha .dbState D,
      decode_encodeWr cfg a ha .phase D, decode_encodeWr cfg a ha .blink D⟩

namespace Machine

/-! ### Reads (20_memory R69) -/

/-- A fault always shows in the record (60_exceptions R200). -/
theorem State.raiseFault_faults_ne (s : State) (code : FaultCode) (i : Instr) :
    (s.raiseFault code i).faults ≠ s.faults := by
  simp

/-- Everything a RD can do: respond, use up a pin draw and respond, or fault. -/
theorem rd_cases {i : Instr} {s t : State} (hi : i.kind = .rd) (h : exec i s = .next t) :
    (∃ w, t = s.respond w) ∨ (∃ w, t = s.nextDraw.respond w) ∨ ∃ code, t = s.raiseFault code i := by
  cases i with
  | rdGpioInData =>
    simp only [exec, execRdGpioInData] at h
    split at h <;> cases h
    · exact .inr (.inl ⟨_, rfl⟩)
    · exact .inr (.inr ⟨_, rfl⟩)
  | rdGpioOutData =>
    simp only [exec, execRdGpioOutData] at h
    split at h <;> cases h
    · exact .inl ⟨_, rfl⟩
    · exact .inr (.inr ⟨_, rfl⟩)
  | rdGpioInTri | rdGpioOutTri | rdTmrTcsr c | rdTmrTlr c | rdTmrTcr c | rdIntcIsr | rdIntcIpr | rdIntcIer | rdIntcMer
  | rdCoreDbState | rdCorePhase | rdCoreBlink | rdCoreDuty k => cases h; exact .inl ⟨_, rfl⟩
  | _ => cases hi

/-- Settles O15: a RD that does not fault only responds, the read of the pins after a draw. -/
theorem readsHaveNoSideEffect : Obligations.ReadsHaveNoSideEffect := by
  intro i s t hi h hf
  obtain ⟨w, rfl⟩ | ⟨w, rfl⟩ | ⟨code, rfl⟩ := rd_cases hi h
  · rfl
  · rfl
  · exact absurd hf (s.raiseFault_faults_ne code i)

/-! ### Repeated writes (20_memory R69) -/

@[simp] theorem Tcsr.write_write (t : Tcsr) (d : Word) : (t.write d).write d = t.write d := by
  simp [Tcsr.write]

@[simp] theorem Timer.writeTcsr_writeTcsr (t : Timer) (d : Word) : (t.writeTcsr d).writeTcsr d = t.writeTcsr d := by
  simp only [Timer.writeTcsr, Tcsr.write_write]
  split <;> rfl

@[simp] theorem Timer.writeTlr_writeTlr (t : Timer) (d : Word) : (t.writeTlr d).writeTlr d = t.writeTlr d := by
  simp only [Timer.writeTlr]
  split <;> rfl

@[simp] theorem State.complete_setTimer_complete (s : State) (c : Fin 2) (x y : Timer) :
    ((s.setTimer c x).complete.setTimer c y).complete = (s.setTimer c y).complete := by
  simp [State.setTimer, State.complete]

@[simp] theorem State.writeTcsr_writeTcsr (s : State) (c : Fin 2) (d : Word) :
    (s.writeTcsr c d).writeTcsr c d = s.writeTcsr c d := by
  have hc : (s.writeTcsr c d).timers[c] = s.timers[c].writeTcsr d := channel_set_self _ _ _
  rw [State.writeTcsr, hc, Timer.writeTcsr_writeTcsr]
  exact s.complete_setTimer_complete c _ _

/-- A TCSR write starts its channel, or leaves it stopped, by D[7] (41_timer R122). -/
theorem State.writeTcsr_running_iff (s : State) (c : Fin 2) (d : Word) :
    (s.writeTcsr c d).tstate c = .running ↔ d.getLsbD 7 = true := by
  rw [State.writeTcsr_tstate]
  exact Tcsr.tstate_running _

theorem ent_of_isStartValue {d : Word} (h : isStartValue d = true) : d.getLsbD 7 = true := by
  obtain ⟨-, -, -, -, h7⟩ := isStartValue_bits h
  exact h7

/-- A stopped channel refuses a start with another mode than 0xD2 (41_timer R122). -/
theorem wrTmrTcsr_refuses {c : Fin 2} {d : Word} {s : State} (hs : s.tstate c ≠ .running) (h7 : d.getLsbD 7 = true)
    (hd : isStartValue d = false) : exec (.wrTmrTcsr c d) s = .next (s.refuse .unsupportedTimerMode) := by
  simp [exec, execWrTmrTcsr, hs, h7, hd]

/-- A write that was accepted is accepted again: a start value finds the channel Running, any other finds it stopped. -/
theorem wrTmrTcsr_repeats {c : Fin 2} {d : Word} {s t : State} (h : exec (.wrTmrTcsr c d) s = .next t)
    (hf : t.faults = s.faults) : exec (.wrTmrTcsr c d) t = .next t := by
  obtain ⟨rfl, hw⟩ | ⟨rfl, -⟩ | ⟨rfl, hs, h7, hd⟩ | ⟨rfl, -⟩ := wrTmrTcsr_cases h
  · have hrun := s.writeTcsr_running_iff c d
    have hagain := wrTmrTcsr_writes (s := s.writeTcsr c d) (c := c) (d := d)
    rw [State.writeTcsr_writeTcsr] at hagain
    obtain ⟨-, hd⟩ | ⟨-, h7⟩ | ⟨-, hd⟩ := hw
    · exact hagain (.inl ⟨hrun.2 (ent_of_isStartValue hd), hd⟩)
    · exact hagain (.inr (.inl ⟨fun hr => Bool.false_ne_true (h7.symm.trans (hrun.1 hr)), h7⟩))
    · exact hagain (.inl ⟨hrun.2 (ent_of_isStartValue hd), hd⟩)
  · exact absurd hf (s.raiseFault_faults_ne _ _)
  · exact wrTmrTcsr_refuses (s := s.refuse _) hs h7 hd
  · exact absurd hf (s.raiseFault_faults_ne _ _)

/-- A WR TLR that found its channel stopped leaves it stopped, with the same load value (41_timer R124). -/
theorem wrTmrTlr_repeats {c : Fin 2} {d : Word} {s t : State} (h : exec (.wrTmrTlr c d) s = .next t)
    (hf : t.faults = s.faults) : exec (.wrTmrTlr c d) t = .next t := by
  simp only [exec, execWrTmrTlr] at h
  split at h <;> cases h
  · exact absurd hf (s.raiseFault_faults_ne _ _)
  · rename_i hs
    have hc : (s.setTimer c (s.timers[c].writeTlr d)).timers[c] = s.timers[c].writeTlr d := channel_set_self _ _ _
    have hstopped : (s.setTimer c (s.timers[c].writeTlr d)).complete.tstate c ≠ .running := by
      rw [State.tstate, State.complete_timers, hc]
      exact hs
    simp only [exec, execWrTmrTlr, if_neg hstopped, State.complete_timers, hc, Timer.writeTlr_writeTlr,
      State.complete_setTimer_complete]

/-- Settles O16, register by register: what the first write stored, the second stores again. -/
theorem repeatedWriteChangesNothingMore : Obligations.RepeatedWriteChangesNothingMore := by
  intro i s t hi hin hout h hf
  cases i with
  | wrGpioInTri d => exact absurd rfl (hin d)
  | wrGpioOutTri d => exact absurd rfl (hout d)
  | wrTmrTcsr c d => exact wrTmrTcsr_repeats h hf
  | wrTmrTlr c d => exact wrTmrTlr_repeats h hf
  | wrGpioOutData d =>
    simp only [exec, execWrGpioOutData] at h
    split at h <;> cases h
    · rename_i hdir
      exact if_pos hdir
    · exact absurd hf (s.raiseFault_faults_ne _ _)
  | wrIntcIer d => cases h; rfl
  | wrIntcIar d => cases h; simp [exec, execWrIntcIar, State.complete]
  | wrIntcMer d => cases h; simp [exec, execWrIntcMer, State.complete]
  | wrCoreDuty k d => cases h; simp [exec, execWrCoreDuty, State.complete]
  | _ => cases hi

/-! ### Which agent's step a step of the machine is (20_memory R60, R61) -/

/-- A HOST word is taken while the sequencer is idle. -/
theorem State.pickInput_host_idle {s : State} (T : Txn) (rest : List Input) (h : s.seq = .idle) :
    s.pickInput (.host T :: rest) = (.host T, rest) :=
  if_pos h

/-- A HOST word stays in the schedule while the handler runs (log 2). -/
theorem State.pickInput_host_waits {s : State} (T : Txn) (rest : List Input) (h : s.seq ≠ .idle) :
    s.pickInput (.host T :: rest) = (.handler, .host T :: rest) :=
  if_neg h

/-- The handler's turn is taken while the handler runs (60_exceptions R219). -/
theorem State.pickInput_handler_runs {s : State} (rest : List Input) (h : s.seq ≠ .idle) :
    s.pickInput (.handler :: rest) = (.handler, rest) :=
  if_pos (by simp [State.handlerEnabled, h])

/-- The step of the picked move, in the schedule that remains, is the step of the machine. -/
theorem step_of_pickInput {s u : State} {m : Input} {rest : List Input} (hf : s.faults = [])
    (hm : s.pickInput s.inputs = (m, rest)) (hu : perform m { s with inputs := rest } = .next u) :
    step s = .next u.endStep := by
  apply step_of_perform hf
  rw [State.nextInput, State.popInput, hm]
  exact hu

theorem transaction_of_op {a : Agent} {T : Txn} {s : State} {i : Instr} (h : decode s.cfg a T = .op i) :
    transaction a T s = exec i { s with issuer := a } := by
  simp only [transaction, h]

/-- No sequencer step touches the schedule. -/
theorem handlerStep_inputs {s t : State} (h : handlerStep s = .next t) : t.inputs = s.inputs := by
  obtain ⟨u, q, w, rfl, rfl | ⟨r, rfl⟩ | ⟨i, T, -, hx⟩⟩ := handlerStep_cases h
  · rfl
  · rfl
  · obtain ⟨-, hin, -⟩ := exec_keeps hx
    exact hin

/-- Settles O51: the handler's turn is picked in both schedules, and its step leaves the waiting word alone. -/
theorem whileTheHandlerRunsItSteps : Obligations.WhileTheHandlerRunsItSteps := by
  refine ⟨fun s rest hf hseq hin => ?_, fun s T rest hf hseq hin => ?_⟩
  · obtain ⟨u, hu⟩ := handlerStep_next { s with inputs := rest }
    have hpick : s.pickInput s.inputs = (.handler, rest) := by
      rw [hin]
      exact State.pickInput_handler_runs rest hseq
    exact ⟨u, hu, step_of_pickInput hf hpick hu⟩
  · obtain ⟨u, hu⟩ := handlerStep_next s
    have hpick : s.pickInput s.inputs = (.handler, s.inputs) := by
      rw [hin]
      exact State.pickInput_host_waits T rest hseq
    exact ⟨u, hu, handlerStep_inputs hu, step_of_pickInput hf hpick hu⟩

/-- Settles O17: the word is picked, decoded and executed, and the step ends with the latch. -/
theorem stepRunsTheDecodedInstruction : Obligations.StepRunsTheDecodedInstruction := by
  intro s a m rest T i hf hin hm hop
  have hperform : perform m { s with inputs := rest } = exec i { s with inputs := rest, issuer := a } := by
    obtain ⟨rfl, rfl, -⟩ | ⟨rfl, rfl⟩ | ⟨rfl, rfl⟩ := hm
    all_goals exact transaction_of_op (s := { s with inputs := rest }) hop
  have hpick : s.pickInput s.inputs = (m, rest) := by
    rw [hin]
    obtain ⟨rfl, -, hseq⟩ | ⟨rfl, -⟩ | ⟨rfl, -⟩ := hm
    · exact State.pickInput_host_idle T rest hseq
    · rfl
    · rfl
  obtain ⟨u, hu⟩ := exec_next i { s with inputs := rest, issuer := a }
  exact ⟨u, hu, step_of_pickInput hf hpick (hperform.trans hu)⟩

end Machine
end Sys2Proof
end

section
/-! PROOFS. The statements of 30_encoding: decode and encode are inverse to each other on the well-formed operations of
each issuer, the rows of the opcode table, the order of the decoder's checks, the operand forms, and the examples. -/

namespace Sys2Proof

/-! ### From a word to the case of its kind (30_encoding R88) -/

theorem Kind.code_injective {K L : Kind} (h : K.code = L.code) : K = L := by
  have := congrArg Kind.ofCode h
  simpa using this

/-- A word that passes the checks on kind, RSV and issuer is decoded by the case of its kind. -/
theorem decode_eq_decodeKind {cfg : Config} {a : Agent} {T : Txn} {K : Kind} (hK : Kind.ofCode T.kindField = some K)
    (hrsv : T.rsv = 0) (ha : mayIssue a K = true) :
    decode cfg a T = decodeKind cfg K T.unitField T.sel T.data := by
  simp [decode, hK, hrsv, ha]

/-- The same, from the code of the kind and a case that is already evaluated. -/
theorem decode_of_case {cfg : Config} {a : Agent} {T : Txn} {x : Decoded} (K : Kind) (hK : T.kindField = K.code)
    (hrsv : T.rsv = 0) (ha : mayIssue a K = true) (hx : decodeKind cfg K T.unitField T.sel T.data = x) :
    decode cfg a T = x :=
  (decode_eq_decodeKind (hK ▸ ofCode_code K) hrsv ha).trans hx

/-- Every issuer of RD and of WR is HOST or SEQ (30_encoding R81). -/
theorem host_or_seq_of_mayIssue {a : Agent} {K : Kind} (hK : K = .rd ∨ K = .wr) (h : mayIssue a K = true) :
    a = .host ∨ a = .seq := by
  obtain rfl | rfl := hK <;> revert h <;> cases a <;> decide

/-! ### The cases of the kinds that name no register (30_encoding R83 to R87) -/

theorem bitData_getElem_zero (b : Bool) : (bitData b)[0] = b := by
  revert b; decide

theorem bitData_upper_zero (b : Bool) : (bitData b).extractLsb' 1 31 = 0 := by
  revert b; decide

/-- A word with DATA[31:1] = 0 is its bit 0 as operand. -/
theorem bitData_of_upper_zero {d : Word} (h : d.extractLsb' 1 31 = 0) : bitData (d.getLsbD 0) = d := by
  ext j hj
  rw [bitData, BitVec.getElem_setWidth, ← BitVec.getLsbD_eq_getElem]
  rcases j with _ | j
  · simp
  · have hbit : (d.extractLsb' 1 31).getLsbD j = false := by simp [h]
    rw [BitVec.getLsbD_extractLsb', decide_eq_true (by omega : j < 31), Bool.true_and, Nat.add_comm] at hbit
    simp [hbit]

theorem decodeSample_legal {cfg : Config} {s : BitVec 8} {i : Fin 32} (raw : Bool) (hi : i.val < cfg.nLines.val)
    (hs : s.toNat = i.val) : decodeSample cfg s (bitData raw) = .op (.sample i raw) := by
  simp [decodeSample, hs, hi, bitData_upper_zero, bitData_getElem_zero]

theorem decodeTclk_legal {cfg : Config} {s : BitVec 8} {c : Fin 2} (hc : c.val < cfg.nTch.val) (hs : s.toNat = c.val) :
    decodeTclk cfg s 0 = .op (.tclk c) := by
  simp [decodeTclk, hs, hc]

theorem decodeSetIe_legal (v : Bool) : decodeSetIe 0 (bitData v) = .op (.setIe v) := by
  revert v; decide

/-! ### Decode of encode (30_encoding R80 to R88) -/

/-- The decoder on the word of a RD that the map answers. -/
theorem decode_encodeRd_op {cfg : Config} {a : Agent} {r : Reg} {i : Instr} (hr : readOp cfg r = .op i)
    (ha : mayIssue a .rd = true) : decode cfg a (encodeRd r) = .op i :=
  (decode_encodeRd cfg a (host_or_seq_of_mayIssue (.inl rfl) ha) r).trans hr

/-- The decoder on the word of a WR that the map answers and whose data sets no reserved bit. -/
theorem decode_encodeWr_op {cfg : Config} {a : Agent} {r : Reg} {d : Word} {i : Instr} (hr : writeOp cfg d r = .op i)
    (hd : (!r.setsReserved cfg d) = true) (ha : mayIssue a .wr = true) : decode cfg a (encodeWr r d) = .op i := by
  rw [decode_encodeWr cfg a (host_or_seq_of_mayIssue (.inr rfl) ha), hr]
  exact if_neg (by simpa using hd)

/-- The decoder on the word of a kind that names no register. -/
theorem decode_encodeOther {cfg : Config} {a : Agent} {K : Kind} {s : BitVec 8} {d : Word} {x : Decoded}
    (ha : mayIssue a K = true) (hx : decodeKind cfg K 0 s d = x) : decode cfg a (encodeOther K s d) = x := by
  rw [encodeOther, decode_ofFields, if_pos ha, hx]

/-- A line or channel index fits in SEL (30_encoding R83, R84). -/
theorem toNat_ofNat_fin {n : Nat} (i : Fin n) (hn : n ≤ 2 ^ 8) : (BitVec.ofNat 8 i.val).toNat = i.val := by
  rw [BitVec.toNat_ofNat]
  exact Nat.mod_eq_of_lt (by omega)

/-- Settles O1, operation by operation: the case of its kind finds the register and the operands that `encode` placed, and
well-formedness passes the index and data checks. -/
theorem encodeThenDecodeReturnsTheInstruction : Obligations.EncodeThenDecodeReturnsTheInstruction := by
  intro cfg a i hw ha
  cases i with
  | rdGpioInData | rdGpioInTri | rdGpioOutData | rdGpioOutTri | rdIntcIsr | rdIntcIpr | rdIntcIer | rdIntcMer
  | rdCoreDbState | rdCorePhase | rdCoreBlink => exact decode_encodeRd_op rfl ha
  | rdTmrTcsr c | rdTmrTlr c | rdTmrTcr c => exact decode_encodeRd_op (if_pos (of_decide_eq_true hw)) ha
  | rdCoreDuty k => exact decode_encodeRd_op (dif_pos (of_decide_eq_true hw)) ha
  | wrGpioInTri d | wrGpioOutData d | wrGpioOutTri d | wrIntcIer d | wrIntcIar d | wrIntcMer d =>
    exact decode_encodeWr_op rfl hw ha
  | wrTmrTcsr c d | wrTmrTlr c d =>
    obtain ⟨hc, hd⟩ := Bool.and_eq_true_iff.1 hw
    exact decode_encodeWr_op (if_pos (of_decide_eq_true hc)) hd ha
  | wrCoreDuty k d =>
    obtain ⟨hk, hd⟩ := Bool.and_eq_true_iff.1 hw
    exact decode_encodeWr_op (dif_pos (of_decide_eq_true hk)) hd ha
  | sample i raw =>
    exact decode_encodeOther ha (decodeSample_legal raw (of_decide_eq_true hw) (toNat_ofNat_fin i (by decide)))
  | tclk c => exact decode_encodeOther ha (decodeTclk_legal (of_decide_eq_true hw) (toNat_ofNat_fin c (by decide)))
  | setIe v => exact decode_encodeOther ha (decodeSetIe_legal v)
  | strobePwmTick | strobeBlinkToggle | reset => exact decode_encodeOther ha rfl

/-! ### Encode of decode (30_encoding R88, R90) -/

theorem encode_of_readOp {cfg : Config} {r : Reg} {i : Instr} (h : readOp cfg r = .op i) : encode i = encodeRd r := by
  cases r with
  | tcsr c | tlr c | tcr c | duty k =>
    simp only [readOp] at h
    split at h <;> cases h
    rfl
  | _ => cases h <;> rfl

theorem encode_of_writeOp {cfg : Config} {d : Word} {r : Reg} {i : Instr} (h : writeOp cfg d r = .op i) :
    encode i = encodeWr r d := by
  cases r with
  | tcsr c | tlr c | duty k =>
    simp only [writeOp] at h
    split at h <;> cases h
    rfl
  | _ => cases h <;> rfl

theorem encode_of_decodeSample {cfg : Config} {s : BitVec 8} {d : Word} {i : Instr} (h : decodeSample cfg s d = .op i) :
    encode i = encodeOther .sample s d := by
  unfold decodeSample at h
  split at h
  · split at h <;> cases h
    next hd =>
      rw [encode, bitData_of_upper_zero (Classical.not_not.1 hd), BitVec.ofNat_toNat, BitVec.setWidth_eq]
  · cases h

theorem encode_of_decodeTclk {cfg : Config} {s : BitVec 8} {d : Word} {i : Instr} (h : decodeTclk cfg s d = .op i) :
    encode i = encodeOther .tclk s d := by
  unfold decodeTclk at h
  split at h
  · split at h <;> cases h
    next hd =>
      rw [encode, Classical.not_not.1 hd, BitVec.ofNat_toNat, BitVec.setWidth_eq]
  · cases h

theorem encode_of_decodeStrobe {s : BitVec 8} {d : Word} {i : Instr} (h : decodeStrobe s d = .op i) :
    encode i = encodeOther .strobe s d := by
  unfold decodeStrobe at h
  split at h
  · cases h
  · split at h
    · cases h
    · next hs hd =>
        rw [Classical.not_not.1 hd]
        split at h <;> cases h
        · next h0 => rw [show s = 0 from BitVec.eq_of_toNat_eq h0]; rfl
        · next h0 => rw [show s = 1 from BitVec.eq_of_toNat_eq (by simp; omega)]; rfl

theorem encode_of_decodeSetIe {s : BitVec 8} {d : Word} {i : Instr} (h : decodeSetIe s d = .op i) :
    encode i = encodeOther .setie s d := by
  unfold decodeSetIe at h
  split at h <;> cases h
  next hsd =>
    obtain ⟨hs, hd⟩ := not_or.1 hsd
    rw [encode, bitData_of_upper_zero (Classical.not_not.1 hd), Classical.not_not.1 hs]

theorem encode_of_decodeReset {s : BitVec 8} {d : Word} {i : Instr} (h : decodeReset s d = .op i) :
    encode i = encodeOther .reset s d := by
  unfold decodeReset at h
  split at h <;> cases h
  next hsd =>
    obtain ⟨hs, hd⟩ := not_or.1 hsd
    rw [encode, Classical.not_not.1 hd, Classical.not_not.1 hs]

/-- A kind that names no register answers only where `UNIT` = 0, so its word has the form of `encodeOther`. -/
theorem encode_of_unit_zero {K : Kind} {u : BitVec 4} {s : BitVec 8} {d : Word} {x : Decoded} {i : Instr}
    (h : (if u ≠ 0 then .refuse .reservedUnit else x) = Decoded.op i)
    (hx : x = .op i → encode i = encodeOther K s d) : encode i = Txn.ofFields K.code u s d := by
  split at h
  · cases h
  · next hu => rw [Classical.not_not.1 hu]; exact hx h

/-- The case of a kind accepts only the fields that `encode` places. -/
theorem encode_of_decodeKind {cfg : Config} {K : Kind} {u : BitVec 4} {s : BitVec 8} {d : Word} {i : Instr}
    (h : decodeKind cfg K u s d = .op i) : encode i = Txn.ofFields K.code u s d := by
  cases K with
  | rd =>
    obtain ⟨r, rfl, rfl, rfl, hr⟩ := decodeRd_op h
    exact encode_of_readOp hr
  | wr =>
    obtain ⟨r, rfl, rfl, -, hr⟩ := decodeWr_op h
    exact encode_of_writeOp hr
  | sample => exact encode_of_unit_zero h encode_of_decodeSample
  | tclk => exact encode_of_unit_zero h encode_of_decodeTclk
  | strobe => exact encode_of_unit_zero h encode_of_decodeStrobe
  | setie => exact encode_of_unit_zero h encode_of_decodeSetIe
  | reset => exact encode_of_unit_zero h encode_of_decodeReset

/-- Every word the decoder accepts is the encoding of its operation, bit for bit. -/
theorem encode_of_decode {cfg : Config} {a : Agent} {T : Txn} {i : Instr} (h : decode cfg a T = .op i) :
    encode i = T := by
  obtain ⟨K, hK, hrsv, -, hk⟩ := decode_op h
  rw [encode_of_decodeKind hk, ← hK, ofFields_of_fields T hrsv]

/-! ### The rows of the opcode table (30_encoding R88, R95) -/

/-- The per-instruction facts of the table, for every operation. -/
theorem rowAccepts : ∀ i : Instr, Laws.RowAccepts.Statement i
  | .rdGpioInData => Laws.RowAccepts.rdGpioInData
  | .rdGpioInTri => Laws.RowAccepts.rdGpioInTri
  | .wrGpioInTri d => Laws.RowAccepts.wrGpioInTri d
  | .rdGpioOutData => Laws.RowAccepts.rdGpioOutData
  | .wrGpioOutData d => Laws.RowAccepts.wrGpioOutData d
  | .rdGpioOutTri => Laws.RowAccepts.rdGpioOutTri
  | .wrGpioOutTri d => Laws.RowAccepts.wrGpioOutTri d
  | .rdTmrTcsr c => Laws.RowAccepts.rdTmrTcsr c
  | .wrTmrTcsr c d => Laws.RowAccepts.wrTmrTcsr c d
  | .rdTmrTlr c => Laws.RowAccepts.rdTmrTlr c
  | .wrTmrTlr c d => Laws.RowAccepts.wrTmrTlr c d
  | .rdTmrTcr c => Laws.RowAccepts.rdTmrTcr c
  | .rdIntcIsr => Laws.RowAccepts.rdIntcIsr
  | .rdIntcIpr => Laws.RowAccepts.rdIntcIpr
  | .rdIntcIer => Laws.RowAccepts.rdIntcIer
  | .wrIntcIer d => Laws.RowAccepts.wrIntcIer d
  | .wrIntcIar d => Laws.RowAccepts.wrIntcIar d
  | .rdIntcMer => Laws.RowAccepts.rdIntcMer
  | .wrIntcMer d => Laws.RowAccepts.wrIntcMer d
  | .rdCoreDbState => Laws.RowAccepts.rdCoreDbState
  | .rdCorePhase => Laws.RowAccepts.rdCorePhase
  | .rdCoreBlink => Laws.RowAccepts.rdCoreBlink
  | .rdCoreDuty k => Laws.RowAccepts.rdCoreDuty k
  | .wrCoreDuty k d => Laws.RowAccepts.wrCoreDuty k d
  | .sample i raw => Laws.RowAccepts.sample i raw
  | .tclk c => Laws.RowAccepts.tclk c
  | .strobePwmTick => Laws.RowAccepts.strobePwmTick
  | .strobeBlinkToggle => Laws.RowAccepts.strobeBlinkToggle
  | .setIe v => Laws.RowAccepts.setIe v
  | .reset => Laws.RowAccepts.reset

theorem tableRow_accepts_encode (i : Instr) : (tableRow i).Accepts (encode i) := by
  obtain ⟨haccepts, -, -⟩ := rowAccepts i
  exact haccepts

theorem encode_kindField (i : Instr) : (encode i).kindField = i.kind.code := by
  obtain ⟨-, hkind, -⟩ := rowAccepts i
  exact hkind

/-- Settles O2: the word's kind is the operation's kind because the encoding is the word. -/
theorem acceptedWordsAreEncodings : Obligations.AcceptedWordsAreEncodings := by
  intro cfg a T i h
  have henc : encode i = T := encode_of_decode h
  obtain ⟨K, hK, -, ha, -⟩ := decode_op h
  have hkind : i.kind = K := Kind.code_injective (by rw [← encode_kindField, henc, hK])
  exact ⟨decode_wellFormed h, hkind ▸ ha, henc⟩

/-- One operation of each row of the opcode table. -/
def rowInstrs : List Instr :=
  [.rdGpioInData, .rdGpioInTri, .wrGpioInTri 0, .rdGpioOutData, .wrGpioOutData 0, .rdGpioOutTri, .wrGpioOutTri 0,
   .rdTmrTcsr 0, .wrTmrTcsr 0 0, .rdTmrTlr 0, .wrTmrTlr 0 0, .rdTmrTcr 0,
   .rdIntcIsr, .rdIntcIpr, .rdIntcIer, .wrIntcIer 0, .wrIntcIar 0, .rdIntcMer, .wrIntcMer 0,
   .rdCoreDbState, .rdCorePhase, .rdCoreBlink, .rdCoreDuty 0, .wrCoreDuty 0 0,
   .sample 0 false, .tclk 0, .strobePwmTick, .strobeBlinkToggle, .setIe false, .reset]

/-- The rows of the opcode table. -/
def tableRows : List TableRow := rowInstrs.map tableRow

theorem tableRow_mem_tableRows (i : Instr) : tableRow i ∈ tableRows := by
  cases i <;> simp only [tableRow] <;> decide

/-- Two rows that accept one word agree on the bits that both fix. -/
theorem common_bits_of_accepts {r q : TableRow} {T : Txn} (hr : r.Accepts T) (hq : q.Accepts T) :
    r.value &&& q.mask = q.value &&& r.mask := by
  rw [← hr, ← hq, BitVec.and_assoc, BitVec.and_assoc, BitVec.and_comm r.mask]

/-- Two different rows of the table differ in a bit that both fix. -/
theorem tableRows_disjoint : ∀ r ∈ tableRows, ∀ q ∈ tableRows, r.value &&& q.mask = q.value &&& r.mask → r = q := by
  decide

/-- Settles O3: the accepted word is an encoding, and two rows of the table differ in a common fixed bit. -/
theorem opcodeRowsAcceptAndAreDisjoint : Obligations.OpcodeRowsAcceptAndAreDisjoint := by
  refine ⟨fun cfg a T i h => ?_, fun i j T hi hj => ?_⟩
  · rw [← encode_of_decode h]
    exact tableRow_accepts_encode i
  · exact tableRows_disjoint _ (tableRow_mem_tableRows i) _ (tableRow_mem_tableRows j) (common_bits_of_accepts hi hj)

/-! ### The first checks (30_encoding R88) -/

theorem ofCode_eq_none {k : BitVec 4} (h : 7 ≤ k.toNat) : Kind.ofCode k = none := by
  revert k; decide

theorem ofCode_eq_some {k : BitVec 4} (h : k.toNat < 7) : ∃ K, Kind.ofCode k = some K :=
  Option.isSome_iff_exists.1 (by revert k; decide)

theorem decodeKind_access_unit {cfg : Config} {K : Kind} {u : BitVec 4} (s : BitVec 8) (d : Word)
    (hK : K = .rd ∨ K = .wr) (hu : 5 ≤ u.toNat) : decodeKind cfg K u s d = .refuse .reservedUnit := by
  obtain rfl | rfl := hK <;> exact if_pos hu

theorem decodeKind_other_unit {cfg : Config} {K : Kind} {u : BitVec 4} (s : BitVec 8) (d : Word)
    (hK : ¬(K = .rd ∨ K = .wr)) (hu : u ≠ 0) : decodeKind cfg K u s d = .refuse .reservedUnit := by
  cases K with
  | rd | wr => simp at hK
  | _ => exact if_pos hu

/-- Settles O4, one clause per check. -/
theorem firstRefusalIsTheFirstCheck : Obligations.FirstRefusalIsTheFirstCheck := by
  intro cfg a T
  refine ⟨fun hk => ?_, fun hk hrsv => ?_, fun K hK hrsv ha => ?_, fun K hK hrsv ha hacc hu => ?_,
    fun K hK hrsv ha hacc hu => ?_⟩
  · simp [decode, ofCode_eq_none hk]
  · obtain ⟨K, hK⟩ := ofCode_eq_some hk
    simp only [decode, hK]
    exact if_pos hrsv
  · simp [decode, hK, hrsv, ha]
  · rw [decode_eq_decodeKind hK hrsv ha, decodeKind_access_unit _ _ hacc hu]
  · rw [decode_eq_decodeKind hK hrsv ha, decodeKind_other_unit _ _ hacc hu]

/-! ### Operand forms and their refusals (30_encoding R82, R84 to R88) -/

/-- A word of a kind that names no register, with `UNIT` = 0. -/
theorem decode_of_unit_zero {cfg : Config} {a : Agent} {T : Txn} {x : Decoded} (K : Kind) (hK : T.kindField = K.code)
    (hrsv : T.rsv = 0) (hu : T.unitField = 0) (ha : mayIssue a K = true) (hx : decodeKind cfg K 0 T.sel T.data = x) :
    decode cfg a T = x :=
  decode_of_case K hK hrsv ha (hu ▸ hx)

theorem decodeTclk_index {cfg : Config} {s : BitVec 8} (d : Word) (hs : cfg.nTch.val ≤ s.toNat) :
    decodeTclk cfg s d = .refuse .indexRange :=
  dif_neg (Nat.not_lt.2 hs)

theorem decodeTclk_data {cfg : Config} {s : BitVec 8} {d : Word} (hs : s.toNat < cfg.nTch.val) (hd : d ≠ 0) :
    decodeTclk cfg s d = .refuse .reservedField :=
  (dif_pos hs).trans (if_pos hd)

theorem decodeStrobe_code {s : BitVec 8} (d : Word) (hs : 2 ≤ s.toNat) : decodeStrobe s d = .refuse .reservedStrobe :=
  if_pos hs

theorem decodeStrobe_data {s : BitVec 8} {d : Word} (hs : s.toNat < 2) (hd : d ≠ 0) :
    decodeStrobe s d = .refuse .reservedField :=
  (if_neg (Nat.not_le.2 hs)).trans (if_pos hd)

/-- A RD whose register exists refuses data (30_encoding R82). -/
theorem decodeRd_data {cfg : Config} {r : Reg} {d : Word} {i : Instr} (hr : readOp cfg r = .op i) (hd : d ≠ 0) :
    decodeRd cfg r.unit.code r.offset d = .refuse .reservedField := by
  rw [decodeRd_reg, hr]
  exact if_neg hd

/-- Settles O6: each clause is the case of its kind, evaluated on the operand form. -/
theorem operandFormsAndTheirRefusals : Obligations.OperandFormsAndTheirRefusals := by
  intro cfg T hrsv
  refine ⟨fun hk hu => ?_, fun hk hu => ?_, fun hk hu => ?_, fun hk hu => ?_,
    fun a r i ha hk hu hs hop hd => ?_, fun a c D ha hc => ?_⟩
  · have tclk {x} := decode_of_unit_zero (cfg := cfg) (x := x) .tclk hk hrsv hu (a := .timer) rfl
    exact ⟨fun hs => tclk (decodeTclk_index _ hs), fun hs hd => tclk (decodeTclk_data hs hd),
      fun c hc hs hd => tclk (hd ▸ decodeTclk_legal hc hs)⟩
  · have strobe {x} := decode_of_unit_zero (cfg := cfg) (x := x) .strobe hk hrsv hu (a := .seq) rfl
    exact ⟨fun hs => strobe (decodeStrobe_code _ hs), fun hs hd => strobe (decodeStrobe_data hs hd),
      fun hs hd => strobe (by rw [hs, hd]; rfl), fun hs hd => strobe (by rw [hs, hd]; rfl)⟩
  · have setie {x} := decode_of_unit_zero (cfg := cfg) (x := x) .setie hk hrsv hu (a := .host) rfl
    exact ⟨fun h => setie (if_pos h), fun hs hd => setie (by rw [hs, hd]; exact decodeSetIe_legal false),
      fun hs hd => setie (by rw [hs, hd]; exact decodeSetIe_legal true)⟩
  · have reset {x} := decode_of_unit_zero (cfg := cfg) (x := x) .reset hk hrsv hu (a := .env) rfl
    exact ⟨fun h => reset (if_pos h), fun hs hd => reset (by rw [hs, hd]; rfl)⟩
  · have hissue : mayIssue a .rd = true := by obtain rfl | rfl := ha <;> rfl
    exact decode_of_case .rd hk hrsv hissue (by rw [hu, hs]; exact decodeRd_data hop hd)
  · have hc : ¬ c.val < cfg.nTch.val := Nat.not_lt.2 hc
    simp [decode_encodeRd cfg a ha, decode_encodeWr cfg a ha, readOp, writeOp, hc]

/-! ### The example table (30_encoding R94) -/

theorem mayIssue_usualIssuer_encode (i : Instr) : mayIssue (usualIssuer (encode i)) i.kind = true := by
  rw [usualIssuer, encode_kindField, ofCode_code]
  cases i.kind <;> rfl

namespace Machine

/-- Text whose tokens name the encoding of a well-formed operation assembles to that word, and the word decodes to the
operation, whichever of its issuers issues it (30_encoding R92). -/
theorem assembles_and_decodes {cfg : Config} {a : Agent} {line : String} {i : Instr} {T : Txn}
    (hw : wellFormed cfg i = true) (ha : mayIssue a i.kind = true) (henc : encode i = T)
    (htext : tokensWord (tokens [] line.toList) = some T) :
    assembleLine cfg line = .word T ∧ decode cfg a T = .op i := by
  subst henc
  refine ⟨?_, encodeThenDecodeReturnsTheInstruction cfg a i hw ha⟩
  have hdec := encodeThenDecodeReturnsTheInstruction cfg _ i hw (mayIssue_usualIssuer_encode i)
  unfold assembleLine
  split
  · next hnil => rw [hnil] at htext; cases htext
  · simp only [htext, hdec]

/-- Settles O8: each line's tokens name the encoding of its operation. -/
theorem specExamplesAssembleAndDecode : Obligations.SpecExamplesAssembleAndDecode := by
  refine ⟨?_, ?_, ?_, ?_, ?_, ?_, ?_, ?_, ?_, ?_, ?_, ?_, ?_, ?_, ?_, ?_, ?_, ?_⟩
  all_goals exact assembles_and_decodes (by decide) (by decide) (by decide) (by decide)

end Machine
end Sys2Proof
end

section
/-! PROOFS. The statements of 40_debounce: what a SAMPLE does to its line and answers, one SAMPLE and a sequence of them, the
reads of the lines and of the pins, the input direction, and who writes the debounce state. -/

namespace Sys2Proof

/-! ### The words of SAMPLE and of a WR (30_encoding R82, R83) -/

theorem decodeSample_index {cfg : Config} {s : BitVec 8} (d : Word) (hs : cfg.nLines.val ≤ s.toNat) :
    decodeSample cfg s d = .refuse .indexRange :=
  dif_neg (Nat.not_lt.2 hs)

theorem decodeSample_data {cfg : Config} {s : BitVec 8} {d : Word} (hs : s.toNat < cfg.nLines.val)
    (hd : d.extractLsb' 1 31 ≠ 0) : decodeSample cfg s d = .refuse .reservedField :=
  (dif_pos hs).trans (if_pos hd)

/-- The issuer is checked before the operands (30_encoding R88). -/
theorem decode_encodeOther_wrongIssuer {cfg : Config} {a : Agent} {K : Kind} (s : BitVec 8) (d : Word)
    (ha : mayIssue a K = false) : decode cfg a (encodeOther K s d) = .refuse .wrongIssuer := by
  rw [encodeOther, decode_ofFields, ha]
  rfl

theorem mayIssue_sample {a : Agent} (ha : a ≠ .host) : mayIssue a .sample = false := by
  cases a with
  | host => exact absurd rfl ha
  | _ => rfl

theorem encode_sample (i : Fin 32) (raw : Bool) :
    encode (.sample i raw) = 0x2000000000000000 ||| (BitVec.ofNat 64 i.val <<< 32) ||| (if raw then 1 else 0) := by
  revert raw i; decide

/-- DATA stands in the low half of the word (30_encoding R80). -/
theorem ofFields_eq_or_data (k u : BitVec 4) (s : BitVec 8) (d : Word) :
    Txn.ofFields k u s d = Txn.ofFields k u s 0 ||| d.setWidth 64 := by
  ext j hj
  rw [← BitVec.getLsbD_eq_getElem, ← BitVec.getLsbD_eq_getElem]
  simp only [Txn.ofFields, BitVec.getLsbD_or, BitVec.getLsbD_setWidth, BitVec.getLsbD_append]
  by_cases hlow : j < 32
  · simp [hlow, hj]
  · simp [hlow, BitVec.getLsbD_of_ge d j (Nat.le_of_not_lt hlow)]

theorem encode_wrGpioInTri (d : Word) : encode (.wrGpioInTri d) = 0x1000000400000000 ||| d.setWidth 64 :=
  ofFields_eq_or_data _ _ _ d

/-- The bits of GPIO_IN.TRI at or above N_LINES are reserved (10_state R26). -/
theorem setsReserved_gpioInTri {cfg : Config} {d : Word} {j : Fin 32} (hj : cfg.nLines.val ≤ j.val)
    (hd : d.getLsbD j.val = true) : Reg.gpioInTri.setsReserved cfg d = true := by
  refine setsReserved_of_bit cfg .gpioInTri d j hd ?_
  rw [Reg.writableBits, lowMask_getLsbD _ _ (Nat.le_of_lt_succ cfg.nLines.isLt)]
  exact decide_eq_false (Nat.not_lt.2 hj)

/-- What the decoder accepted, its issuer may issue (30_encoding R81). -/
theorem mayIssue_of_decode {cfg : Config} {a : Agent} {T : Txn} {i : Instr} (h : decode cfg a T = .op i) :
    mayIssue a i.kind = true := by
  obtain ⟨-, hissue, -⟩ := acceptedWordsAreEncodings cfg a T i h
  exact hissue

namespace Machine

/-- A word restricted to the lines that exist, bit by bit. -/
theorem and_lines_getLsbD (cfg : Config) (w : Word) (j : Nat) :
    (w &&& lowMask cfg.nLines.val).getLsbD j = (decide (j < cfg.nLines.val) && w.getLsbD j) :=
  and_lowMask_getLsbD w _ j (Nat.le_of_lt_succ cfg.nLines.isLt)

/-! ### One SAMPLE (40_debounce R100) -/

/-- The state after SAMPLE i, raw of a line whose direction is written. -/
def State.sampled (s : State) (i : Fin 32) (raw : Bool) : State :=
  { s with db := s.db.set i (DbState.observe raw) }.respond (flagWord (s.db[i].trigger raw))

theorem exec_sample_directed {s : State} (i : Fin 32) (raw : Bool) (h : s.triWrittenIn = true) :
    exec (.sample i raw) s = .next (s.sampled i raw) :=
  if_pos h

theorem exec_sample_undirected {s : State} (i : Fin 32) (raw : Bool) (h : s.triWrittenIn = false) :
    exec (.sample i raw) s = .next (s.raiseFault .dataBeforeDirection (.sample i raw)) :=
  if_neg (by simp [h])

@[simp] theorem State.sampled_triWrittenIn (s : State) (i : Fin 32) (raw : Bool) :
    (s.sampled i raw).triWrittenIn = s.triWrittenIn := rfl

@[simp] theorem State.sampled_db (s : State) (i : Fin 32) (raw : Bool) :
    (s.sampled i raw).db = s.db.set i (DbState.observe raw) := rfl

@[simp] theorem State.sampled_resp (s : State) (i : Fin 32) (raw : Bool) :
    (s.sampled i raw).resp = .value (flagWord (s.db[i].trigger raw)) := rfl

/-- The sampled line is Pressed exactly when the level was 1 (40_debounce R101). -/
theorem State.sampled_pressed (s : State) (i : Fin 32) (raw : Bool) :
    ((s.sampled i raw).db[i] == .pressed) = raw := by
  rw [State.sampled_db, Fin.getElem_fin, Vector.getElem_set_self]
  revert raw; decide

/-- The response is 1 exactly at a falling edge from the line's state (40_debounce R109). -/
theorem State.sampled_triggers (s : State) (i : Fin 32) (raw : Bool) :
    ((s.sampled i raw).resp == .value 1) = (s.db[i] == .pressed && !raw) := by
  rw [State.sampled_resp]
  generalize s.db[i] = st
  cases st <;> revert raw <;> decide

/-- Settles O18: the truth table by the line's state and the level, the refusals by the SAMPLE case of the decoder. -/
theorem sampleFollowsItsTruthTable : Obligations.SampleFollowsItsTruthTable := by
  refine ⟨fun s i raw h => ?_, fun s i raw h => ⟨s.steps, exec_sample_undirected i raw h⟩, encode_sample,
    fun cfg S D hS => decode_encodeOther rfl (decodeSample_index D hS),
    fun cfg S D hS hD => decode_encodeOther rfl (decodeSample_data hS hD),
    fun cfg a S D ha => decode_encodeOther_wrongIssuer S D (mayIssue_sample ha)⟩
  rw [exec_sample_directed i raw h, State.sampled]
  generalize s.db[i] = st
  cases st <;> cases raw <;> rfl

/-! ### A sequence of SAMPLEs of one line (40_debounce R101, R109) -/

theorem execAll_sample_cons {s : State} (i : Fin 32) (raw : Bool) (rest : List Instr) (h : s.triWrittenIn = true) :
    execAll (.sample i raw :: rest) s = execAll rest (s.sampled i raw) := by
  simp only [execAll, exec_sample_directed i raw h]

theorem execTrace_sample_cons {s : State} (i : Fin 32) (raw : Bool) (rest : List Instr) (h : s.triWrittenIn = true) :
    execTrace (.sample i raw :: rest) s = s.sampled i raw :: execTrace rest (s.sampled i raw) := by
  simp only [execTrace, exec_sample_directed i raw h]

/-- Settles O19, by induction on the levels: each SAMPLE leaves its level as the line's state, the previous level of the next. -/
theorem triggersAreTheFallingEdges : Obligations.TriggersAreTheFallingEdges := by
  intro s i raws h
  induction raws generalizing s with
  | nil => exact ⟨s, rfl, beq_iff_eq.symm, rfl⟩
  | cons raw rest ih =>
    obtain ⟨t, ht, hlast, hcount⟩ := ih (s.sampled i raw) h
    rw [State.sampled_pressed] at hlast hcount
    refine ⟨t, (execAll_sample_cons i raw _ h).trans ht, hlast, ?_⟩
    rw [List.map_cons, execTrace_sample_cons i raw _ h, List.filter_cons, State.sampled_triggers, fallingEdges, ← hcount]
    split
    · rw [List.length_cons, Nat.add_comm]
    · rw [Nat.zero_add]

/-! ### The reads of the lines and of the pins (40_debounce R104, R105) -/

theorem dbWord_getLsbD (s : State) (j : Fin 32) :
    s.dbWord.getLsbD j.val = (decide (j.val < s.cfg.nLines.val) && s.db[j] == .pressed) := by
  rw [State.dbWord, and_lines_getLsbD, bitsWord_getLsbD]
  simp

/-- Settles O20. -/
theorem dbStateReadShowsTheLines : Obligations.DbStateReadShowsTheLines :=
  ⟨by decide, fun s => ⟨s.dbWord, rfl, dbWord_getLsbD s⟩⟩

/-- Settles O21: the response is the next draw, restricted to the lines. -/
theorem pinReadIsADrawOfTheLines : Obligations.PinReadIsADrawOfTheLines :=
  ⟨by decide, fun s h => ⟨s.pinDraw, if_pos h, fun j => and_lines_getLsbD s.cfg _ j.val⟩,
    fun s h => ⟨s.steps, if_neg (by simp [h])⟩⟩

/-! ### The input direction (40_debounce R106, R107) -/

theorem exec_wrGpioInTri_again {s : State} (d : Word) (h : s.triWrittenIn = true) :
    exec (.wrGpioInTri d) s = .next (s.raiseFault .directionRewritten (.wrGpioInTri d)) :=
  if_pos h

/-- Settles O22: the flag decides between the write and the fault, and the read has no condition. -/
theorem inputDirectionIsWrittenOnceAndReadBack : Obligations.InputDirectionIsWrittenOnceAndReadBack := by
  refine ⟨encode_wrGpioInTri, by decide,
    fun s d h => ⟨d &&& lowMask s.cfg.nLines.val, if_neg (by simp [h]), fun j => and_lines_getLsbD s.cfg d j.val⟩,
    fun s d h => ⟨s.steps, ?_⟩,
    fun s => ⟨s.gpioInTri &&& lowMask s.cfg.nLines.val, rfl, fun j => and_lines_getLsbD s.cfg _ j.val⟩,
    fun cfg a D j ha hj hD => decode_encodeWr_reserved ha rfl (setsReserved_gpioInTri hj hD)⟩
  rw [exec_wrGpioInTri_again d h, State.raiseFault, encode_wrGpioInTri]

/-! ### The owner of DB (10_state R42, 40_debounce R108) -/

theorem exec_keeps_line {i : Instr} {s t : State} {n : Fin 32} (h : exec i s = .next t)
    (hsample : ∀ raw, i ≠ .sample n raw) (hreset : i ≠ .reset) : t.db[n] = s.db[n] := by
  cases i with
  | reset => exact absurd rfl hreset
  | sample m raw =>
    simp only [exec, execSample] at h
    split at h <;> cases h
    · have hne : m.val ≠ n.val := fun e => hsample raw (by rw [Fin.ext e])
      exact Vector.getElem_set_ne m.isLt n.isLt hne
    · rfl
  | wrTmrTcsr c d => obtain ⟨rfl, -⟩ | ⟨rfl, -⟩ | ⟨rfl, -⟩ | ⟨rfl, -⟩ := wrTmrTcsr_cases h <;> rfl
  | tclk c => obtain ⟨-, rfl⟩ | ⟨-, -, rfl⟩ | ⟨-, -, rfl⟩ := tclk_cases h <;> rfl
  | rdGpioInData | rdGpioOutData | wrGpioInTri d | wrGpioOutData d | wrGpioOutTri d | wrTmrTlr c d | strobePwmTick =>
    simp only [exec, execRdGpioInData, execRdGpioOutData, execWrGpioInTri, execWrGpioOutData, execWrGpioOutTri,
      execWrTmrTlr, execStrobePwmTick] at h
    split at h <;> cases h <;> rfl
  | _ => cases h; rfl

/-- SEQ issues neither SAMPLE nor RESET (30_encoding R81), so its operations keep every line. -/
theorem exec_seq_keeps_db {i : Instr} {s t : State} (ha : mayIssue .seq i.kind = true) (h : exec i s = .next t) :
    t.db = s.db := by
  have hsample : ∀ n raw, i ≠ .sample n raw := by rintro n raw rfl; cases ha
  have hreset : i ≠ .reset := by rintro rfl; cases ha
  exact Vector.ext fun n hn => exec_keeps_line (n := ⟨n, hn⟩) h (hsample _) hreset

theorem handlerStep_keeps_db {s t : State} (h : handlerStep s = .next t) : t.db = s.db := by
  obtain ⟨u, q, w, rfl, rfl | ⟨r, rfl⟩ | ⟨i, T, hi, hx⟩⟩ := handlerStep_cases h
  · rfl
  · rfl
  · have hu := exec_seq_keeps_db (mayIssue_of_decode hi) hx
    exact hu

/-- Settles O23. -/
theorem debounceStateBelongsToSample : Obligations.DebounceStateBelongsToSample :=
  ⟨fun _ _ _ _ h => exec_keeps_line h, fun _ _ => handlerStep_keeps_db⟩

end Machine
end Sys2Proof
end

section
/-! PROOFS. The statements of 41_timer: the channel registers as read and written, the timer event, the life cycle, the
period law, and the invariants of every step. The layer they share is `exec_channelMove`: everything one operation can do
to one channel. -/

namespace Sys2Proof

/-! ### The words of the channel registers and of TCLK (30_encoding R82, R84) -/

theorem encodeWr_eq_or_data (r : Reg) (d : Word) : encodeWr r d = encodeWr r 0 ||| d.setWidth 64 :=
  ofFields_eq_or_data _ _ _ d

theorem encode_wrTmrTcsr (c : Fin 2) (d : Word) :
    encode (.wrTmrTcsr c d) = 0x1200000000000000 ||| (BitVec.ofNat 64 (0x10 * c.val) <<< 32) ||| d.setWidth 64 := by
  have hword : ∀ c : Fin 2, encodeWr (.tcsr c) 0 = 0x1200000000000000 ||| (BitVec.ofNat 64 (0x10 * c.val) <<< 32) := by
    decide
  rw [encode, encodeWr_eq_or_data, hword]

theorem encode_wrTmrTlr (c : Fin 2) (d : Word) :
    encode (.wrTmrTlr c d)
      = 0x1200000000000000 ||| (BitVec.ofNat 64 (0x04 + 0x10 * c.val) <<< 32) ||| d.setWidth 64 := by
  have hword : ∀ c : Fin 2,
      encodeWr (.tlr c) 0 = 0x1200000000000000 ||| (BitVec.ofNat 64 (0x04 + 0x10 * c.val) <<< 32) := by decide
  rw [encode, encodeWr_eq_or_data, hword]

/-- Bits 0, 2, 3 and [31:9] of TCSR are reserved (10_state R32). -/
theorem tcsrMask_getLsbD_reserved {j : Fin 32} (hj : j = 0 ∨ j = 2 ∨ j = 3 ∨ 9 ≤ j.val) :
    tcsrMask.getLsbD j.val = false := by
  revert j; decide

theorem mayIssue_tclk {a : Agent} (ha : a ≠ .timer) : mayIssue a .tclk = false := by
  cases a with
  | timer => exact absurd rfl ha
  | _ => rfl

namespace Machine

/-! ### The fields a write stores -/

theorem not_isStartValue_of_stopped {d : Word} (h7 : d.getLsbD 7 = false) : isStartValue d = false :=
  Bool.eq_false_iff.2 fun hd => Bool.false_ne_true (h7.symm.trans (ent_of_isStartValue hd))

theorem isStartValue_eq_false_iff (d : Word) : isStartValue d = false ↔ d.extractLsb' 0 8 ≠ 0xD2 := by
  rw [← Bool.not_eq_true, isStartValue_iff]

theorem Tcsr.tint_write (x : Tcsr) (d : Word) :
    (x.write d).tint = if d.getLsbD 8 then false else x.tint := by
  rw [Tcsr.write]
  cases d.getLsbD 8 <;> simp

/-- A start value leaves the channel Running; a write with D[7] = 0 leaves it Configured or Disabled by the three mode bits
(10_state R35, 41_timer R120). -/
theorem Tcsr.tstate_write (x : Tcsr) {d : Word} (h : isStartValue d = true ∨ d.getLsbD 7 = false) :
    (x.write d).tstate = if d.extractLsb' 0 8 = 0xD2 then .running
      else if d.getLsbD 1 && d.getLsbD 4 && d.getLsbD 6 then .configured else .disabled := by
  obtain hd | h7 := h
  · rw [if_pos ((isStartValue_iff d).1 hd), Tcsr.tstate_running]
    exact ent_of_isStartValue hd
  · rw [if_neg ((isStartValue_eq_false_iff d).1 (not_isStartValue_of_stopped h7))]
    exact if_neg (Bool.eq_false_iff.1 h7)

/-! ### Everything an operation can do to one channel -/

theorem State.not_running_iff (s : State) (c : Fin 2) : s.tstate c ≠ .running ↔ s.timers[c].tcsr.ent = false := by
  rw [State.tstate, ne_eq, Tcsr.tstate_running, Bool.not_eq_true]

/-- The expiry counters of a channel stand. -/
def CountersStand (s t : State) (c : Fin 2) : Prop :=
  t.expired[c] = s.expired[c] ∧ t.merged[c] = s.merged[c]

/-- What an operation does to channel c: its three registers and its two counters (41_timer R122, R124, R126). -/
inductive ChannelMove (s t : State) (c : Fin 2) : Instr → Prop
  | stays {i : Instr} (timer : t.timers[c] = s.timers[c]) (counters : CountersStand s t c) : ChannelMove s t c i
  | written {d : Word} (accepted : isStartValue d = true ∨ (s.timers[c].tcsr.ent = false ∧ d.getLsbD 7 = false))
      (timer : t.timers[c] = s.timers[c].writeTcsr d) (counters : CountersStand s t c) :
      ChannelMove s t c (.wrTmrTcsr c d)
  | loaded {d : Word} (stopped : s.timers[c].tcsr.ent = false) (timer : t.timers[c] = s.timers[c].writeTlr d)
      (counters : CountersStand s t c) : ChannelMove s t c (.wrTmrTlr c d)
  | counted (running : s.timers[c].tcsr.ent = true) (nonzero : s.timers[c].tcr ≠ 0)
      (timer : t.timers[c] = { s.timers[c] with tcr := s.timers[c].tcr - 1 }) (counters : CountersStand s t c) :
      ChannelMove s t c (.tclk c)
  | expired (running : s.timers[c].tcsr.ent = true) (zero : s.timers[c].tcr = 0)
      (timer : t.timers[c] = { s.timers[c] with tcsr := { s.timers[c].tcsr with tint := true }, tcr := s.timers[c].tlr })
      (expired : t.expired[c] = s.expired[c] + 1)
      (merged : t.merged[c] = s.merged[c] + if s.timers[c].tcsr.tint then 1 else 0) : ChannelMove s t c (.tclk c)
  | reset (timer : t.timers[c] = Timer.zero) (counters : CountersStand s t c) : ChannelMove s t c .reset

/-- An operation that leaves the channels and the counters alone. -/
theorem ChannelMove.of_frame {i : Instr} {s t : State} (c : Fin 2)
    (h : t.timers = s.timers ∧ t.expired = s.expired ∧ t.merged = s.merged) : ChannelMove s t c i := by
  obtain ⟨htimers, hexpired, hmerged⟩ := h
  exact .stays (by rw [htimers]) ⟨by rw [hexpired], by rw [hmerged]⟩

/-- A write of one channel, as seen by every channel (41_timer R127). -/
theorem channel_set_cases (s : State) (c c' : Fin 2) (x : Timer) :
    (c' = c ∧ (s.timers.set c' x)[c] = x) ∨ (s.timers.set c' x)[c] = s.timers[c] := by
  by_cases hc : c' = c
  · subst hc
    exact .inl ⟨rfl, channel_set_self _ _ _⟩
  · exact .inr (channel_set_ne _ _ hc)

/-- An accepted WR TCSR starts its channel or keeps it started, or finds it stopped and leaves it so (41_timer R122). -/
theorem start_or_stopped_of_accepted {s : State} {c : Fin 2} {d : Word}
    (h : (s.tstate c = .running ∧ isStartValue d = true) ∨ (s.tstate c ≠ .running ∧ d.getLsbD 7 = false)
      ∨ (s.tstate c = .configured ∧ isStartValue d = true)) :
    isStartValue d = true ∨ (s.timers[c].tcsr.ent = false ∧ d.getLsbD 7 = false) := by
  obtain ⟨-, hd⟩ | ⟨hstop, h7⟩ | ⟨-, hd⟩ := h
  · exact .inl hd
  · exact .inr ⟨(s.not_running_iff c).1 hstop, h7⟩
  · exact .inl hd

theorem wrTmrTcsr_channelMove {c' : Fin 2} {d : Word} {s t : State} (h : exec (.wrTmrTcsr c' d) s = .next t)
    (c : Fin 2) : ChannelMove s t c (.wrTmrTcsr c' d) := by
  obtain ⟨rfl, hw⟩ | ⟨rfl, -⟩ | ⟨rfl, -⟩ | ⟨rfl, -⟩ := wrTmrTcsr_cases h
  · obtain ⟨rfl, hset⟩ | hset := channel_set_cases s c c' (s.timers[c'].writeTcsr d)
    · exact .written (start_or_stopped_of_accepted hw) hset ⟨rfl, rfl⟩
    · exact .stays hset ⟨rfl, rfl⟩
  all_goals exact .of_frame c ⟨rfl, rfl, rfl⟩

theorem wrTmrTlr_channelMove {c' : Fin 2} {d : Word} {s t : State} (h : exec (.wrTmrTlr c' d) s = .next t)
    (c : Fin 2) : ChannelMove s t c (.wrTmrTlr c' d) := by
  simp only [exec, execWrTmrTlr] at h
  split at h <;> cases h
  · exact .of_frame c ⟨rfl, rfl, rfl⟩
  · rename_i hstop
    obtain ⟨rfl, hset⟩ | hset := channel_set_cases s c c' (s.timers[c'].writeTlr d)
    · exact .loaded ((s.not_running_iff c').1 hstop) hset ⟨rfl, rfl⟩
    · exact .stays hset ⟨rfl, rfl⟩

/-- An expiry counts as merged where the flag was pending (41_timer R126). -/
theorem merged_count (m : Nat) (pending : Bool) :
    (if pending then m + 1 else m) = m + if pending then 1 else 0 := by
  cases pending <;> rfl

theorem tclk_channelMove {c' : Fin 2} {s t : State} (h : exec (.tclk c') s = .next t) (c : Fin 2) :
    ChannelMove s t c (.tclk c') := by
  obtain ⟨-, rfl⟩ | ⟨hrun, hzero, rfl⟩ | ⟨hrun, hcount, rfl⟩ := tclk_cases h
  · exact .of_frame c ⟨rfl, rfl, rfl⟩
  · by_cases hc : c' = c
    · subst hc
      exact .expired ((Tcsr.tstate_running _).1 hrun) hzero (channel_set_self _ _ _) (channel_set_self _ _ _)
        ((channel_set_self _ _ _).trans (merged_count _ _))
    · exact .stays (channel_set_ne _ _ hc) ⟨channel_set_ne _ _ hc, channel_set_ne _ _ hc⟩
  · obtain ⟨rfl, hset⟩ | hset := channel_set_cases s c c' { s.timers[c'] with tcr := s.timers[c'].tcr - 1 }
    · exact .counted ((Tcsr.tstate_running _).1 hrun) hcount hset ⟨rfl, rfl⟩
    · exact .stays hset ⟨rfl, rfl⟩

theorem State.blockReset_channel (s : State) (c : Fin 2) : s.blockReset.timers[c] = Timer.zero :=
  Vector.getElem_replicate _

theorem exec_channelMove {i : Instr} {s t : State} (h : exec i s = .next t) (c : Fin 2) : ChannelMove s t c i := by
  cases i with
  | wrTmrTcsr c' d => exact wrTmrTcsr_channelMove h c
  | wrTmrTlr c' d => exact wrTmrTlr_channelMove h c
  | tclk c' => exact tclk_channelMove h c
  | reset =>
    cases h
    exact .reset (s.blockReset_channel c) ⟨rfl, rfl⟩
  | rdGpioInData | rdGpioOutData | wrGpioInTri d | wrGpioOutData d | wrGpioOutTri d | sample n raw | strobePwmTick =>
    simp only [exec, execRdGpioInData, execRdGpioOutData, execWrGpioInTri, execWrGpioOutData, execWrGpioOutTri,
      execSample, execStrobePwmTick] at h
    split at h <;> cases h <;> exact .of_frame c ⟨rfl, rfl, rfl⟩
  | _ =>
    cases h
    exact .of_frame c ⟨rfl, rfl, rfl⟩

/-! ### Reads (41_timer R121, R123, R125) -/

/-- Settles O24: the response is the status word, read bit by bit. -/
theorem tcsrReadShowsTheStoredFields : Obligations.TcsrReadShowsTheStoredFields :=
  ⟨by decide, fun s c => ⟨s.timers[c].tcsr.toWord, rfl, s.timers[c].tcsr.toWord_getLsbD⟩⟩

/-- Settles O25. -/
theorem loadAndCounterReads : Obligations.LoadAndCounterReads :=
  ⟨by decide, by decide, fun _ _ => rfl, fun _ _ => rfl⟩

/-! ### WR TCSR and WR TLR (41_timer R122, R124) -/

/-- A running channel takes only 0xD2 (41_timer R122). -/
theorem wrTmrTcsr_reconfigured {c : Fin 2} {d : Word} {s : State} (hrun : s.tstate c = .running)
    (hd : isStartValue d = false) :
    exec (.wrTmrTcsr c d) s = .next (s.raiseFault .timerReconfiguredWhileRunning (.wrTmrTcsr c d)) := by
  simp [exec, execWrTmrTcsr, hrun, hd]

/-- A start needs a configured channel (41_timer R122). -/
theorem wrTmrTcsr_notConfigured {c : Fin 2} {d : Word} {s : State} (hdis : s.tstate c = .disabled)
    (hd : isStartValue d = true) :
    exec (.wrTmrTcsr c d) s = .next (s.raiseFault .timerStartNotConfigured (.wrTmrTcsr c d)) := by
  simp [exec, execWrTmrTcsr, hdis, hd, ent_of_isStartValue hd]

/-- Settles O26: each case is one branch of the write, and a reserved bit stops the word at the decoder. -/
theorem tcsrWriteFollowsItsRule : Obligations.TcsrWriteFollowsItsRule := by
  refine ⟨encode_wrTmrTcsr, fun s c d h => ?_,
    fun s c d hrun hd => ⟨s.steps, wrTmrTcsr_reconfigured hrun ((isStartValue_eq_false_iff d).2 hd)⟩,
    fun s c d hstop h7 hd => wrTmrTcsr_refuses hstop h7 ((isStartValue_eq_false_iff d).2 hd),
    fun s c d hdis hd => ⟨s.steps, wrTmrTcsr_notConfigured hdis ((isStartValue_iff d).2 hd)⟩,
    fun cfg a c D j ha hc hj hD => decode_encodeWr_reserved ha (if_pos hc)
      (setsReserved_of_bit cfg (.tcsr c) D j hD (tcsrMask_getLsbD_reserved hj))⟩
  rw [← isStartValue_iff] at h
  rw [wrTmrTcsr_writes h, ← Tcsr.tint_write]
  rfl

/-- Settles O28: the life cycle decides between the two branches of the write. -/
theorem tlrWriteLoadsAStoppedChannel : Obligations.TlrWriteLoadsAStoppedChannel :=
  ⟨encode_wrTmrTlr, fun _ _ _ hstop => if_neg hstop, fun s _ _ hrun => ⟨s.steps, if_pos hrun⟩⟩

/-! ### The timer event (41_timer R126) -/

theorem exec_tclk_absorbed {s : State} {c : Fin 2} (hstop : s.tstate c ≠ .running) :
    exec (.tclk c) s = .next s.complete :=
  if_neg hstop

theorem exec_tclk_expires {s : State} {c : Fin 2} (hrun : s.tstate c = .running) (hzero : s.timers[c].tcr = 0) :
    exec (.tclk c) s = .next (s.expire c).complete :=
  (if_pos hrun).trans (if_pos hzero)

theorem exec_tclk_counts {s : State} {c : Fin 2} (hrun : s.tstate c = .running) (hcount : s.timers[c].tcr ≠ 0) :
    exec (.tclk c) s = .next (s.setTimer c { s.timers[c] with tcr := s.timers[c].tcr - 1 }).complete :=
  (if_pos hrun).trans (if_neg hcount)

/-- The counter goes down without wrap (41_timer R126). -/
theorem toNat_pred_of_succ {w : Word} {m : Nat} (h : w.toNat = m + 1) : w ≠ 0 ∧ (w - 1).toNat = m := by
  constructor
  · rintro rfl
    simp at h
  · bv_omega

/-- Settles O29: one branch of the event each, and the refusals of the TCLK case of the decoder. -/
theorem timerEventCountsDownOrExpires : Obligations.TimerEventCountsDownOrExpires := by
  refine ⟨by decide, fun s c => exec_tclk_absorbed, fun s c hrun hzero => ?_, fun s c m hrun hm => ?_,
    fun cfg a S D ha => decode_encodeOther_wrongIssuer S D (mayIssue_tclk ha),
    fun cfg S D hS => decode_encodeOther rfl (decodeTclk_index D hS)⟩
  · rw [exec_tclk_expires hrun hzero, ← merged_count]
    rfl
  · obtain ⟨hne, hpred⟩ := toNat_pred_of_succ hm
    exact ⟨s.timers[c].tcr - 1, hpred, exec_tclk_counts hrun hne⟩

/-! ### The life cycle, isolation and the flag (41_timer R120, R127, R129) -/

/-- Nothing but RESET clears ENT (41_timer R120). -/
theorem ChannelMove.keeps_running {i : Instr} {s t : State} {c : Fin 2} (h : ChannelMove s t c i) (hi : i ≠ .reset)
    (hrun : s.timers[c].tcsr.ent = true) : t.timers[c].tcsr.ent = true := by
  cases h with
  | stays timer | loaded _ timer | counted _ _ timer | expired _ _ timer =>
    rw [timer]
    exact hrun
  | written accepted timer =>
    obtain hd | ⟨hstop, -⟩ := accepted
    · rw [timer]
      exact ent_of_isStartValue hd
    · exact absurd hrun (Bool.eq_false_iff.1 hstop)
  | reset => exact absurd rfl hi

theorem exec_keeps_running {i : Instr} {s t : State} {c : Fin 2} (h : exec i s = .next t) (hi : i ≠ .reset)
    (hrun : s.tstate c = .running) : t.tstate c = .running := by
  rw [State.tstate, Tcsr.tstate_running] at hrun ⊢
  exact (exec_channelMove h c).keeps_running hi hrun

/-- Settles O27: the fields of an accepted write, the moves that keep ENT, and the zero channel of RESET. -/
theorem runningEndsOnlyAtReset : Obligations.RunningEndsOnlyAtReset := by
  refine ⟨fun s t c d h hresp => ?_, fun i s t c h hi hrun => ?_, fun s t c h => ?_⟩
  · obtain ⟨rfl, hw⟩ | ⟨rfl, -⟩ | ⟨rfl, -⟩ | ⟨rfl, -⟩ := wrTmrTcsr_cases h
    · rw [State.writeTcsr_tstate]
      exact Tcsr.tstate_write _ ((start_or_stopped_of_accepted hw).imp_right And.right)
    all_goals cases hresp
  · exact exec_keeps_running h hi hrun
  · cases h
    rw [State.tstate, State.complete_timers, State.blockReset_channel]
    rfl

/-- Settles O30: a move of channel c other than RESET names it. -/
theorem channelsAreIsolated : Obligations.ChannelsAreIsolated := by
  intro i s t c h hreset hname
  cases exec_channelMove h c with
  | stays timer counters => exact ⟨timer, counters⟩
  | written | loaded | counted | expired => exact absurd rfl hname
  | reset => exact absurd rfl hreset

theorem Tcsr.tint_of_write {x : Tcsr} {d : Word} (h : (x.write d).tint = true) : x.tint = true :=
  (Bool.and_eq_true_iff.1 h).1

/-- TINT is set by an expiry and by nothing else (41_timer R129). -/
theorem ChannelMove.pending_before_or_expired {i : Instr} {s t : State} {c : Fin 2} (h : ChannelMove s t c i) :
    (CountersStand s t c ∧ (t.timers[c].tcsr.tint = true → s.timers[c].tcsr.tint = true))
    ∨ (t.timers[c].tcsr.tint = true ∧ t.expired[c] = s.expired[c] + 1
      ∧ t.merged[c] = s.merged[c] + if s.timers[c].tcsr.tint then 1 else 0) := by
  cases h with
  | stays timer counters | loaded _ timer counters | counted _ _ timer counters =>
    rw [timer]
    exact .inl ⟨counters, id⟩
  | written _ timer counters =>
    rw [timer]
    exact .inl ⟨counters, Tcsr.tint_of_write⟩
  | expired _ _ timer hexpired hmerged =>
    rw [timer]
    exact .inr ⟨rfl, hexpired, hmerged⟩
  | reset timer counters =>
    rw [timer]
    exact .inl ⟨counters, nofun⟩

/-- Settles O32: TINT rises only at an expiry, and there MERGED counts what TINT was. -/
theorem unmergedExpiriesAreTheRisesOfTint : Obligations.UnmergedExpiriesAreTheRisesOfTint := by
  intro i s t c h
  obtain ⟨⟨hexpired, -⟩, hwas⟩ | ⟨htint, hexpired, hmerged⟩ := (exec_channelMove h c).pending_before_or_expired
  · constructor
    · exact fun ⟨hclear, hset⟩ => absurd (hwas hset) (Bool.eq_false_iff.1 hclear)
    · exact fun ⟨hgrows, _⟩ => absurd (hexpired.symm.trans hgrows) (Nat.succ_ne_self _).symm
  · rw [htint, hexpired, hmerged]
    cases s.timers[c].tcsr.tint <;> simp

/-! ### The period law (41_timer R128) -/

/-- The expiries in k events of a running channel with TCR = n and TLR = L. -/
def expiriesAfter (n L k : Nat) : Nat := if k ≤ n then 0 else 1 + (k - n - 1) / (L + 1)

/-- The counter after k events of a running channel with TCR = n and TLR = L. -/
def counterAfter (n L k : Nat) : Nat := if k ≤ n then n - k else L - (k - n - 1) % (L + 1)

theorem expiriesAfter_count (n L k : Nat) : expiriesAfter (n + 1) L (k + 1) = expiriesAfter n L k := by
  simp only [expiriesAfter, Nat.add_le_add_iff_right, Nat.add_sub_add_right]

theorem counterAfter_count (n L k : Nat) : counterAfter (n + 1) L (k + 1) = counterAfter n L k := by
  simp only [counterAfter, Nat.add_le_add_iff_right, Nat.add_sub_add_right]

theorem expiriesAfter_expiry (L k : Nat) : expiriesAfter 0 L (k + 1) = 1 + expiriesAfter L L k := by
  have hfirst : expiriesAfter 0 L (k + 1) = 1 + k / (L + 1) := rfl
  rw [hfirst, expiriesAfter]
  split
  · rw [Nat.div_eq_of_lt (by omega)]
  · rw [Nat.div_eq_sub_div (by omega) (by omega), Nat.add_comm _ 1, Nat.sub_sub]

theorem counterAfter_expiry (L k : Nat) : counterAfter 0 L (k + 1) = counterAfter L L k := by
  have hfirst : counterAfter 0 L (k + 1) = L - k % (L + 1) := rfl
  rw [hfirst, counterAfter]
  split
  · rw [Nat.mod_eq_of_lt (by omega)]
  · rw [Nat.mod_eq_sub_mod (by omega), Nat.sub_sub]

theorem execAll_cons {i : Instr} {s t : State} (rest : List Instr) (h : exec i s = .next t) :
    execAll (i :: rest) s = execAll rest t := by
  simp only [execAll, h]

/-- The law holds before any event, and each event, counting or expiring, moves it by one. -/
theorem tclk_replicate_law (s : State) (c : Fin 2) (k : Nat) (hrun : s.tstate c = .running) :
    ∃ t, execAll (List.replicate k (.tclk c)) s = some t
      ∧ t.expired[c] = s.expired[c] + expiriesAfter s.timers[c].tcr.toNat s.timers[c].tlr.toNat k
      ∧ t.timers[c].tcr.toNat = counterAfter s.timers[c].tcr.toNat s.timers[c].tlr.toNat k := by
  induction k generalizing s with
  | zero => exact ⟨s, rfl, rfl, rfl⟩
  | succ k ih =>
    rw [List.replicate_succ]
    have hstays : ∀ {u : State}, exec (.tclk c) s = .next u → u.tstate c = .running :=
      fun hu => exec_keeps_running hu nofun hrun
    cases hn : s.timers[c].tcr.toNat with
    | zero =>
      have hx := exec_tclk_expires hrun (BitVec.eq_of_toNat_eq hn)
      obtain ⟨t, ht, hexpired, htcr⟩ := ih _ (hstays hx)
      rw [State.complete_timers, State.expire_timers, channel_set_self] at hexpired htcr
      rw [State.complete_expired, State.expire_expired, channel_set_self] at hexpired
      refine ⟨t, (execAll_cons _ hx).trans ht, ?_, ?_⟩
      · rw [hexpired, expiriesAfter_expiry, Nat.add_assoc]
      · rw [htcr, counterAfter_expiry]
    | succ m =>
      obtain ⟨hne, hpred⟩ := toNat_pred_of_succ hn
      have hx := exec_tclk_counts hrun hne
      obtain ⟨t, ht, hexpired, htcr⟩ := ih _ (hstays hx)
      rw [State.complete_timers, State.setTimer_timers, channel_set_self, hpred] at hexpired htcr
      refine ⟨t, (execAll_cons _ hx).trans ht, ?_, ?_⟩
      · rw [hexpired, expiriesAfter_count]
        rfl
      · rw [htcr, counterAfter_count]

/-- Settles O31, by induction on the number of events. -/
theorem expiriesFollowThePeriodLaw : Obligations.ExpiriesFollowThePeriodLaw := tclk_replicate_law

/-! ### Invariants of the channels (41_timer R130) -/

/-- A property that says nothing of the sequencer, the schedule and the last answer, and that every operation and the
latch keep, is kept by every step. -/
theorem step_preserves {P : State → Prop} {s t : State} (h : step s = .next t) (hs : P s)
    (hframe : ∀ (u : State) (q w rest a r b), P u →
      P { u with seq := q, v := w, inputs := rest, issuer := a, resp := r, refused := b })
    (hexec : ∀ {i : Instr} {u v : State}, P u → exec i u = .next v → P v)
    (hend : ∀ {u : State}, P u → P u.endStep) : P t := by
  obtain ⟨u, q, w, rest, rfl, hu⟩ := step_effect h
  have hPu : P u := by
    obtain rfl | ⟨r, a, rfl⟩ | ⟨i, T, a, -, hx⟩ := hu
    · exact hframe s s.seq s.v rest .seq .silent s.refused hs
    · exact hframe s s.seq s.v rest a (.refused r) true hs
    · exact hexec (hframe s s.seq s.v rest a s.resp s.refused hs) hx
  exact hend (hframe u q w u.inputs u.issuer u.resp u.refused hPu)

theorem ChannelMove.pending_running {i : Instr} {s t : State} {c : Fin 2} (h : ChannelMove s t c i)
    (hs : s.timers[c].tcsr.tint = true → s.timers[c].tcsr.ent = true) :
    t.timers[c].tcsr.tint = true → t.timers[c].tcsr.ent = true := by
  cases h with
  | stays timer | loaded _ timer | counted _ _ timer =>
    rw [timer]
    exact hs
  | written accepted timer =>
    rw [timer]
    obtain hd | ⟨hstop, -⟩ := accepted
    · exact fun _ => ent_of_isStartValue hd
    · exact fun ht => absurd (hs (Tcsr.tint_of_write ht)) (Bool.eq_false_iff.1 hstop)
  | expired running _ timer =>
    rw [timer]
    exact fun _ => running
  | reset timer =>
    rw [timer]
    exact nofun

/-- A write that leaves the channel Running is a start value (41_timer R122). -/
theorem ChannelMove.sound {i : Instr} {s t : State} {c : Fin 2} (h : ChannelMove s t c i)
    (hs : s.timers[c].tcsr.Sound) : t.timers[c].tcsr.Sound := by
  obtain ⟨hpending, hmode⟩ := hs
  refine ⟨h.pending_running hpending, ?_⟩
  cases h with
  | stays timer | loaded _ timer | counted _ _ timer | expired _ _ timer =>
    rw [timer]
    exact hmode
  | written accepted timer =>
    rw [timer]
    obtain hd | ⟨-, h7⟩ := accepted
    · obtain ⟨h1, h4, h5, h6, -⟩ := isStartValue_bits hd
      exact fun _ => ⟨h1, h4, h6, h5⟩
    · exact fun hent => absurd hent (Bool.eq_false_iff.1 h7)
  | reset timer =>
    rw [timer]
    exact nofun

theorem ChannelMove.merged_le_expired {i : Instr} {s t : State} {c : Fin 2} (h : ChannelMove s t c i)
    (hs : s.merged[c] ≤ s.expired[c]) : t.merged[c] ≤ t.expired[c] := by
  obtain ⟨⟨hexpired, hmerged⟩, -⟩ | ⟨-, hexpired, hmerged⟩ := h.pending_before_or_expired
  · rwa [hexpired, hmerged]
  · rw [hexpired, hmerged]
    split <;> omega

/-- TINT = 1 implies Running, on every channel (41_timer R130). -/
def State.PendingRuns (s : State) : Prop := ∀ c : Fin 2, s.timers[c].tcsr.tint = true → s.tstate c = .running

theorem exec_pendingRuns {i : Instr} {s t : State} (hs : s.PendingRuns) (h : exec i s = .next t) : t.PendingRuns :=
  fun c ht => (Tcsr.tstate_running _).2
    ((exec_channelMove h c).pending_running (fun hp => (Tcsr.tstate_running _).1 (hs c hp)) ht)

theorem State.powerOn_channel (cfg : Config) (c : Fin 2) : (State.powerOn cfg).timers[c] = Timer.zero :=
  Vector.getElem_replicate _

/-- Settles O57: every move of a channel keeps it, and the sequencer's own part touches no channel. -/
theorem pendingFlagMeansRunning : Obligations.PendingFlagMeansRunning := by
  refine ⟨fun cfg c => ?_, fun s t hs h => ?_⟩
  · rw [State.powerOn_channel]
    exact nofun
  · exact step_preserves (P := State.PendingRuns) h hs (fun _ _ _ _ _ _ _ => id) exec_pendingRuns id

/-! ### The block invariant, part by part -/

theorem State.directionFirst_blockReset (s : State) : s.blockReset.DirectionFirst :=
  ⟨fun _ => ⟨rfl, fun _ => Vector.getElem_replicate _⟩, fun _ => ⟨rfl, rfl⟩⟩

/-- What an operation that names a channel can write: the channels, their counters, the records and the response. -/
theorem channelOp_frame {i : Instr} {s t : State} {c : Fin 2} (hi : channelOfInstr i = some c)
    (h : exec i s = .next t) :
    t = { s with
      timers := t.timers, expired := t.expired, merged := t.merged
      faults := t.faults, refused := t.refused, resp := t.resp } := by
  cases i with
  | wrTmrTcsr c d => obtain ⟨rfl, -⟩ | ⟨rfl, -⟩ | ⟨rfl, -⟩ | ⟨rfl, -⟩ := wrTmrTcsr_cases h <;> rfl
  | tclk c => obtain ⟨-, rfl⟩ | ⟨-, -, rfl⟩ | ⟨-, -, rfl⟩ := tclk_cases h <;> rfl
  | wrTmrTlr c d =>
    simp only [exec, execWrTmrTlr] at h
    split at h <;> cases h <;> rfl
  | rdTmrTcsr c | rdTmrTlr c | rdTmrTcr c => cases h; rfl
  | _ => cases hi

/-- The latches and lines move only once their direction is written, and writing it ends the claim (10_state R26 to R30). -/
theorem exec_directionFirst {i : Instr} {s t : State} (hs : s.DirectionFirst) (h : exec i s = .next t) :
    t.DirectionFirst := by
  cases i with
  | reset =>
    cases h
    exact s.directionFirst_blockReset
  | wrGpioInTri d =>
    simp only [exec, execWrGpioInTri] at h
    split at h <;> cases h
    · exact hs
    · exact ⟨nofun, hs.2⟩
  | wrGpioOutTri d =>
    simp only [exec, execWrGpioOutTri] at h
    split at h <;> cases h
    · exact hs
    · exact ⟨hs.1, nofun⟩
  | sample n raw =>
    simp only [exec, execSample] at h
    split at h <;> cases h
    · rename_i hdir
      exact ⟨fun hclear => absurd hdir (Bool.eq_false_iff.1 hclear), hs.2⟩
    · exact hs
  | wrGpioOutData d | strobePwmTick =>
    simp only [exec, execWrGpioOutData, execStrobePwmTick] at h
    split at h <;> cases h
    · rename_i hdir
      exact ⟨hs.1, fun hclear => absurd hdir (Bool.eq_false_iff.1 hclear)⟩
    · exact hs
  | wrTmrTcsr c d | wrTmrTlr c d | tclk c =>
    rw [channelOp_frame rfl h]
    exact hs
  | rdGpioInData | rdGpioOutData =>
    simp only [exec, execRdGpioInData, execRdGpioOutData] at h
    split at h <;> cases h <;> exact hs
  | _ =>
    cases h
    exact hs

theorem exec_timersSound {i : Instr} {s t : State} (hs : s.TimersSound) (h : exec i s = .next t) : t.TimersSound :=
  fun c => (hs c).imp (exec_channelMove h c).sound (exec_channelMove h c).merged_le_expired

/-- No operation sets ISR, HIE is set-once, and RESET clears both (42_interrupt_ack R158, R162). -/
theorem exec_isr_under_hie {i : Instr} {s t : State} (hs : s.isr = true → s.hie = true) (h : exec i s = .next t) :
    t.isr = true → t.hie = true := by
  cases i with
  | wrIntcIar d =>
    cases h
    exact fun hset => hs (Bool.and_eq_true_iff.1 hset).1
  | wrIntcMer d =>
    cases h
    exact fun hset => Bool.or_eq_true_iff.2 (.inl (hs hset))
  | reset =>
    cases h
    exact nofun
  | wrTmrTcsr c d | wrTmrTlr c d | tclk c =>
    rw [channelOp_frame rfl h]
    exact hs
  | rdGpioInData | rdGpioOutData | wrGpioInTri d | wrGpioOutData d | wrGpioOutTri d | sample n raw | strobePwmTick =>
    simp only [exec, execRdGpioInData, execRdGpioOutData, execWrGpioInTri, execWrGpioOutData, execWrGpioOutTri,
      execSample, execStrobePwmTick] at h
    split at h <;> cases h <;> exact hs
  | _ =>
    cases h
    exact hs

/-- The latch sets ISR under HIE only (42_interrupt_ack R150). -/
theorem State.endStep_isr_under_hie {s : State} (hs : s.isr = true → s.hie = true) :
    s.endStep.isr = true → s.endStep.hie = true := by
  intro h
  obtain hset | hlatched := Bool.or_eq_true_iff.1 h
  · exact hs hset
  · exact (Bool.and_eq_true_iff.1 hlatched).1

/-- No step ends with the timer line high, HIE = 1 and ISR = 0 (42_interrupt_ack R150). -/
theorem step_latches {s t : State} (h : step s = .next t) (hhie : t.hie = true) (hline : t.tmrIrq = true) :
    t.isr = true := by
  obtain ⟨-, u, -, rfl⟩ := step_cases h
  exact Bool.or_eq_true_iff.2 (.inr (Bool.and_eq_true_iff.2 ⟨hhie, hline⟩))

/-! ### The handler's position and latch (60_exceptions R210, R213) -/

theorem State.handlerSound_of_free {s : State} (h : s.seq = .idle ∨ s.seq = .iar ∨ s.seq = .ret) : s.HandlerSound := by
  unfold State.HandlerSound
  obtain h | h | h := h <;> rw [h] <;> trivial

theorem State.handlerSound_iff_channel {s : State} {c : Fin 2} (h : s.seq = .rd c ∨ s.seq = .act c) :
    s.HandlerSound ↔ c.val < s.cfg.nTch.val := by
  unfold State.HandlerSound
  obtain h | h := h <;> rw [h]

theorem State.handlerSound_iff_ack {s : State} {c : Fin 2} (h : s.seq = .ack c) :
    s.HandlerSound ↔ c.val < s.cfg.nTch.val ∧ s.v = 0x1D2 ∧ s.timers[c].tcsr.tint = true := by
  unfold State.HandlerSound
  rw [h]

theorem State.handlerSound_of_afterChannel {s : State} {c : Fin 2} (h : s.seq = .afterChannel s.cfg c) :
    s.HandlerSound := by
  unfold Seq.afterChannel at h
  split at h
  · rename_i hnext
    exact (handlerSound_iff_channel (.inl h)).2 hnext
  · exact handlerSound_of_free (.inr (.inl h))

/-- The position and the latch stay, and so does a pending flag. -/
theorem State.HandlerSound.of_stays {s t : State} (hs : s.HandlerSound) (hcfg : t.cfg = s.cfg) (hseq : t.seq = s.seq)
    (hv : t.v = s.v) (ht : ∀ c : Fin 2, s.timers[c].tcsr.tint = true → t.timers[c].tcsr.tint = true) :
    t.HandlerSound := by
  unfold State.HandlerSound at hs ⊢
  rw [hseq, hcfg, hv]
  generalize s.seq = q at hs ⊢
  cases q with
  | ack c =>
    obtain ⟨hc, hlatched, hpending⟩ := hs
    exact ⟨hc, hlatched, ht c hpending⟩
  | _ => exact hs

theorem exec_keeps_position {i : Instr} {s t : State} (h : exec i s = .next t) (hi : i ≠ .reset) :
    t.seq = s.seq ∧ t.v = s.v := by
  obtain ⟨code, rfl⟩ | ⟨r, rfl⟩ | hc := exec_cases h
  · exact ⟨rfl, rfl⟩
  · exact ⟨rfl, rfl⟩
  · exact hc.sequencer hi

theorem tclk_keeps_pending {c c' : Fin 2} {s t : State} (h : exec (.tclk c') s = .next t)
    (ht : s.timers[c].tcsr.tint = true) : t.timers[c].tcsr.tint = true := by
  cases exec_channelMove h c with
  | stays timer | counted _ _ timer =>
    rw [timer]
    exact ht
  | expired _ _ timer => rw [timer]

/-- The transactions of the three agents beside SEQ: HOST moves at IDLE only, TIMER never clears a flag, and ENV resets. -/
theorem transaction_handlerSound {a : Agent} {T : Txn} {s u : State} (hs : s.HandlerSound)
    (h : transaction a T s = .next u) (hseq : a ≠ .seq) (hhost : a = .host → s.seq = .idle) : u.HandlerSound := by
  obtain ⟨r, -, rfl⟩ | ⟨i, hi, hx⟩ := transaction_cases h
  · exact hs
  have hissue := mayIssue_of_decode hi
  cases a with
  | host =>
    have hidle : u.seq = .idle := by
      by_cases hreset : i = .reset
      · subst hreset
        cases hx
        rfl
      · obtain ⟨hpos, -⟩ := exec_keeps_position hx hreset
        exact hpos.trans (hhost rfl)
    exact State.handlerSound_of_free (.inl hidle)
  | timer =>
    cases i with
    | tclk c =>
      obtain ⟨hcfg, -⟩ := exec_keeps hx
      obtain ⟨hpos, hv⟩ := exec_keeps_position hx nofun
      exact hs.of_stays hcfg hpos hv fun _ => tclk_keeps_pending (s := { s with issuer := .timer }) hx
    | _ => cases hissue
  | env =>
    cases i with
    | reset => cases hx; exact State.handlerSound_of_free (.inl rfl)
    | _ => cases hissue
  | seq => exact absurd rfl hseq

/-- SEQ issues no RESET (30_encoding R81), so its transaction leaves the position to the sequencer's own part. -/
theorem transaction_seq_keeps {T : Txn} {s u : State} (h : transaction .seq T s = .next u) :
    u.cfg = s.cfg ∧ u.seq = s.seq := by
  obtain ⟨r, -, rfl⟩ | ⟨i, hi, hx⟩ := transaction_cases h
  · exact ⟨rfl, rfl⟩
  · have hissue := mayIssue_of_decode hi
    have hreset : i ≠ .reset := by rintro rfl; cases hissue
    obtain ⟨hcfg, -⟩ := exec_keeps hx
    obtain ⟨hpos, -⟩ := exec_keeps_position hx hreset
    exact ⟨hcfg, hpos⟩

/-- The status word of a pending channel (41_timer R121). -/
theorem Tcsr.toWord_of_pending {x : Tcsr} (hx : x.Sound) (ht : x.tint = true) : x.toWord = 0x1D2 := by
  obtain ⟨hrun, hmode⟩ := hx
  obtain ⟨hudt, harht, henit, hload⟩ := hmode (hrun ht)
  obtain ⟨udt, arht, load, enit, ent, tint⟩ := x
  simp only at ht hrun hudt harht henit hload
  subst ht hudt harht henit hload
  rw [hrun rfl]
  decide

/-- The step at RD(c): the status word is read and latched (60_exceptions R212). -/
theorem handlerStep_rd {s : State} {c : Fin 2} (hseq : s.seq = .rd c) (hc : c.val < s.cfg.nTch.val) :
    handlerStep s
      = .next ((({ s with issuer := .seq } : State).respond s.timers[c].tcsr.toWord).latchStatus c) := by
  have hop : decode s.cfg .seq (encode (.rdTmrTcsr c)) = .op (.rdTmrTcsr c) :=
    encodeThenDecodeReturnsTheInstruction _ _ _ (decide_eq_true hc) rfl
  have hrow : handlerStep s
      = thenSeq (transaction .seq (encode (.rdTmrTcsr c)) s) fun t => t.latchStatus c := by
    rw [handlerStep, hseq]
  rw [hrow, transaction_of_op hop]
  rfl

/-- The step at ACK(c) of a running channel: the flag is cleared with the start value 0x1D2 (60_exceptions R213). -/
theorem handlerStep_ack {s : State} {c : Fin 2} (hseq : s.seq = .ack c) (hc : c.val < s.cfg.nTch.val)
    (hv : s.v = 0x1D2) (hrun : s.tstate c = .running) :
    handlerStep s = .next { ({ s with issuer := .seq } : State).writeTcsr c 0x1D2 with seq := .act c } := by
  have hbits : (!(Reg.tcsr c).setsReserved s.cfg 0x1D2) = true := by
    rw [Reg.setsReserved, Reg.writableBits]
    decide
  have hop : decode s.cfg .seq (encode (.wrTmrTcsr c 0x1D2)) = .op (.wrTmrTcsr c 0x1D2) :=
    encodeThenDecodeReturnsTheInstruction _ _ _ (Bool.and_eq_true_iff.2 ⟨decide_eq_true hc, hbits⟩) rfl
  have hx : exec (.wrTmrTcsr c 0x1D2) { s with issuer := .seq }
      = .next (({ s with issuer := .seq } : State).writeTcsr c 0x1D2) :=
    wrTmrTcsr_writes (.inl ⟨hrun, by decide⟩)
  have hrow : handlerStep s
      = thenSeq (transaction .seq (encode (.wrTmrTcsr c 0x1D2)) s) fun t => { t with seq := .act c } := by
    rw [handlerStep, hseq, hv]
  rw [hrow, transaction_of_op hop, hx]
  rfl

theorem State.latchStatus_handlerSound {s : State} {c : Fin 2} (hc : c.val < s.cfg.nTch.val)
    (hsound : s.timers[c].tcsr.Sound) : ((s.respond s.timers[c].tcsr.toWord).latchStatus c).HandlerSound := by
  have hbit : s.timers[c].tcsr.toWord.getLsbD 8 = s.timers[c].tcsr.tint := s.timers[c].tcsr.toWord_getLsbD 8
  cases ht : s.timers[c].tcsr.tint with
  | true =>
    exact (handlerSound_iff_ack (if_pos (hbit.trans ht))).2 ⟨hc, Tcsr.toWord_of_pending hsound ht, ht⟩
  | false => exact handlerSound_of_afterChannel (if_neg (Bool.eq_false_iff.1 (hbit.trans ht)))

theorem actStep_handlerSound {c : Fin 2} {s t : State} (hseq : s.seq = .act c) (hc : c.val < s.cfg.nTch.val)
    (h : actStep c s = .next t) : t.HandlerSound := by
  unfold actStep at h
  split at h
  · obtain ⟨u, hu, ⟨-, rfl⟩ | ⟨-, rfl⟩⟩ := thenSeq_cases h
    · obtain ⟨hcfg, hpos⟩ := transaction_seq_keeps hu
      exact (State.handlerSound_iff_channel (.inr (hpos.trans hseq))).2 (hcfg ▸ hc)
    · exact State.handlerSound_of_afterChannel rfl
  · cases h
    exact State.handlerSound_of_afterChannel rfl

/-- Every row of the sequencer's table leads to a sound position (60_exceptions R210). -/
theorem handlerStep_handlerSound {s t : State} (hlegal : s.cfg.Legal) (htimers : s.TimersSound)
    (hs : s.HandlerSound) (h : handlerStep s = .next t) : t.HandlerSound := by
  cases hseq : s.seq with
  | idle =>
    rw [handlerStep, hseq] at h
    cases h
    obtain ⟨-, -, hchannels, -⟩ := hlegal
    exact (State.handlerSound_iff_channel (c := 0) (.inl rfl)).2 hchannels
  | rd c =>
    have hc := (State.handlerSound_iff_channel (.inl hseq)).1 hs
    cases (handlerStep_rd hseq hc).symm.trans h
    exact State.latchStatus_handlerSound (s := { s with issuer := .seq }) hc (htimers c).1
  | ack c =>
    obtain ⟨hc, hv, ht⟩ := (State.handlerSound_iff_ack hseq).1 hs
    obtain ⟨⟨hpending, -⟩, -⟩ := htimers c
    cases (handlerStep_ack hseq hc hv ((Tcsr.tstate_running _).2 (hpending ht))).symm.trans h
    exact (State.handlerSound_iff_channel (.inr rfl)).2 hc
  | act c =>
    rw [handlerStep, hseq] at h
    exact actStep_handlerSound hseq ((State.handlerSound_iff_channel (.inr hseq)).1 hs) h
  | iar =>
    rw [handlerStep, hseq] at h
    obtain ⟨u, hu, ⟨-, rfl⟩ | ⟨-, rfl⟩⟩ := thenSeq_cases h
    · obtain ⟨-, hpos⟩ := transaction_seq_keeps hu
      exact State.handlerSound_of_free (.inr (.inl (hpos.trans hseq)))
    · exact State.handlerSound_of_free (.inr (.inr rfl))
  | ret =>
    rw [handlerStep, hseq] at h
    cases h
    exact State.handlerSound_of_free (.inl rfl)

theorem State.handlerEnabled_of_not_idle {s : State} (h : s.seq ≠ .idle) : s.handlerEnabled = true :=
  Bool.or_eq_true_iff.2 (.inl (decide_eq_true h))

theorem State.freeInput_host {s : State} {T : Txn} (h : s.freeInput = .host T) : s.seq = .idle := by
  unfold State.freeInput at h
  split at h
  · split at h
    · assumption
    · cases h
  · split at h
    · cases h
    · rename_i hoff
      exact Decidable.not_not.1 fun hne => hoff (State.handlerEnabled_of_not_idle hne)
  · cases h
  · cases h

/-- A HOST word is taken at IDLE only (20_memory R61). -/
theorem State.pickInput_host {s : State} {T : Txn} {ins : List Input} (h : (s.pickInput ins).1 = .host T) :
    s.seq = .idle := by
  induction ins with
  | nil => exact State.freeInput_host h
  | cons m rest ih =>
    cases m with
    | host T' =>
      refine Decidable.not_not.1 fun hne => ?_
      rw [State.pickInput_host_waits T' rest hne] at h
      cases h
    | handler =>
      rw [State.pickInput] at h
      split at h
      · cases h
      · exact ih h
    | timer T' => cases h
    | env T' => cases h

theorem step_handlerSound {s t : State} (h : step s = .next t) (hlegal : s.cfg.Legal) (htimers : s.TimersSound)
    (hs : s.HandlerSound) : t.HandlerSound := by
  obtain ⟨-, u, hu, rfl⟩ := step_cases h
  have hsound : u.HandlerSound := by
    cases hm : s.nextInput <;> rw [hm] at hu
    case host T => exact transaction_handlerSound (s := s.popInput) hs hu nofun fun _ => State.pickInput_host (s := s) hm
    case timer T => exact transaction_handlerSound (s := s.popInput) hs hu nofun nofun
    case env T => exact transaction_handlerSound (s := s.popInput) hs hu nofun nofun
    case handler => exact handlerStep_handlerSound (s := s.popInput) hlegal htimers hs hu
  exact hsound

/-- Settles O56: the parts that say nothing of the sequencer by `step_preserves`, its position and latch by the agent that
moved, and the controller's latch by the end of the step. -/
theorem everyStepKeepsTheBlockInvariant : Obligations.EveryStepKeepsTheBlockInvariant := by
  intro s t hs h
  obtain ⟨hlegal, hrange, hdir, htimers, hhandler, hlatch, -⟩ := hs
  exact {
    legal := (step_keeps_cfg h).symm ▸ hlegal
    inRange := step_inRange h hrange
    directionFirst := step_preserves (P := State.DirectionFirst) h hdir (fun _ _ _ _ _ _ _ => id) exec_directionFirst id
    timersSound := step_preserves (P := State.TimersSound) h htimers (fun _ _ _ _ _ _ _ => id) exec_timersSound id
    handlerSound := step_handlerSound h hlegal htimers hhandler
    latchSound := ⟨step_preserves (P := fun u => u.isr = true → u.hie = true) h hlatch (fun _ _ _ _ _ _ _ => id)
      exec_isr_under_hie State.endStep_isr_under_hie, step_latches h⟩ }

/-! ### Power-on (70_reset_and_hazards R241) -/

/-- Settles O55: RESET would leave the power-on state as it is, and every channel, line and flag is clear. -/
theorem powerOnMeetsTheInvariant : Obligations.PowerOnMeetsTheInvariant := by
  intro cfg hlegal
  exact {
    legal := hlegal
    inRange := ⟨mask_and_not_mask _, and_and_not_mask _ _, mask_and_not_mask _, fun _ _ => Vector.getElem_replicate _,
      fun _ _ => Vector.getElem_replicate _,
      fun c _ => ⟨State.powerOn_channel cfg c, Vector.getElem_replicate _, Vector.getElem_replicate _⟩⟩
    directionFirst := (State.powerOn cfg).directionFirst_blockReset
    timersSound := fun c => by
      have hmerged : (State.powerOn cfg).merged[c] = 0 := Vector.getElem_replicate _
      rw [State.powerOn_channel, hmerged]
      exact ⟨⟨nofun, nofun⟩, Nat.zero_le _⟩
    handlerSound := State.handlerSound_of_free (.inl rfl)
    latchSound := ⟨nofun, nofun⟩ }

end Machine
end Sys2Proof
end

section
/-! PROOFS. The statements of 42_interrupt_ack: the controller's registers as read and written, the latch at the end of every
step, what makes IRQ fall, the acknowledge, and the host enable and blink flag. The layer they share is
`exec_controllerMove`: everything one operation can do to the controller's registers. -/

namespace Sys2Proof

/-! ### The words refused (30_encoding R81, R88) -/

/-- Where the register implements the low k bits, one 1 above them sets a reserved bit (10_state R23). -/
theorem setsReserved_of_upper {cfg : Config} {r : Reg} {d : Word} (k n : Nat) (hk : k + n = 32)
    (hr : r.writableBits cfg = lowMask k) (hd : d.extractLsb' k n ≠ 0) : r.setsReserved cfg d = true := by
  refine Decidable.byContradiction fun hclear => ?_
  refine hd (BitVec.eq_of_getLsbD_eq fun j hj => ?_)
  have hupper : (r.writableBits cfg).getLsbD (k + j) = false := by
    rw [hr, lowMask_getLsbD _ _ (by omega)]
    exact decide_eq_false (by omega)
  have hzero : ¬ d.getLsbD (k + j) = true :=
    fun hone => hclear (setsReserved_of_bit cfg r d ⟨k + j, by omega⟩ hone hupper)
  rw [BitVec.getLsbD_extractLsb', Bool.eq_false_iff.2 hzero, Bool.and_false]
  exact BitVec.getLsbD_zero.symm

theorem mayIssue_setie {a : Agent} (ha : a ≠ .host) : mayIssue a .setie = false := by
  cases a with
  | host => exact absurd rfl ha
  | _ => rfl

theorem mayIssue_strobe {a : Agent} (ha : a ≠ .seq) : mayIssue a .strobe = false := by
  cases a with
  | seq => exact absurd rfl ha
  | _ => rfl

namespace Machine

/-! ### Everything an operation can do to the controller's registers -/

/-- What an operation does to ISR, IER, ME and HIE, before the latch (42_interrupt_ack R155, R156, R158, R162). -/
inductive ControllerMove (s t : State) : Instr → Prop
  | stays {i : Instr} (isr : t.isr = s.isr) (ier : t.ier = s.ier) (me : t.me = s.me) (hie : t.hie = s.hie) :
      ControllerMove s t i
  | ierWritten {d : Word} (isr : t.isr = s.isr) (ier : t.ier = d.getLsbD 0) (me : t.me = s.me) (hie : t.hie = s.hie) :
      ControllerMove s t (.wrIntcIer d)
  | acknowledged {d : Word} (isr : t.isr = if d.getLsbD 0 then false else s.isr) (ier : t.ier = s.ier)
      (me : t.me = s.me) (hie : t.hie = s.hie) : ControllerMove s t (.wrIntcIar d)
  | merWritten {d : Word} (isr : t.isr = s.isr) (ier : t.ier = s.ier) (me : t.me = d.getLsbD 0)
      (hie : t.hie = (s.hie || d.getLsbD 1)) : ControllerMove s t (.wrIntcMer d)
  | reset (isr : t.isr = false) (ier : t.ier = false) (me : t.me = false) (hie : t.hie = false) :
      ControllerMove s t .reset

/-- The acknowledge clears ISR when bit 0 of its data is 1 (42_interrupt_ack R156). -/
theorem and_not_acknowledged (isr ack : Bool) : (isr && !ack) = if ack then false else isr := by
  cases ack <;> simp

theorem exec_wrIntcIar (s : State) (d : Word) :
    exec (.wrIntcIar d) s = .next { s with isr := if d.getLsbD 0 then false else s.isr, resp := .silent } := by
  rw [← and_not_acknowledged]
  rfl

theorem exec_controllerMove {i : Instr} {s t : State} (h : exec i s = .next t) : ControllerMove s t i := by
  cases i with
  | wrIntcIer d => cases h; exact .ierWritten rfl rfl rfl rfl
  | wrIntcIar d =>
    rw [exec_wrIntcIar] at h
    cases h
    exact .acknowledged rfl rfl rfl rfl
  | wrIntcMer d => cases h; exact .merWritten rfl rfl rfl rfl
  | reset => cases h; exact .reset rfl rfl rfl rfl
  | wrTmrTcsr c d | wrTmrTlr c d | tclk c =>
    rw [channelOp_frame rfl h]
    exact .stays rfl rfl rfl rfl
  | rdGpioInData | rdGpioOutData | wrGpioInTri d | wrGpioOutData d | wrGpioOutTri d | sample n raw | strobePwmTick =>
    simp only [exec, execRdGpioInData, execRdGpioOutData, execWrGpioInTri, execWrGpioOutData, execWrGpioOutTri,
      execSample, execStrobePwmTick] at h
    split at h <;> cases h <;> exact .stays rfl rfl rfl rfl
  | _ => cases h; exact .stays rfl rfl rfl rfl

/-! ### The registers as read (42_interrupt_ack R152, R153, R154, R157) -/

theorem State.ipr_word (s : State) : flagWord s.ipr = if s.isr ∧ s.ier then 1 else 0 := by
  simp [flagWord_eq, State.ipr]

theorem State.merWord_eq (s : State) : s.merWord = (if s.hie then 2 else 0) ||| (if s.me then 1 else 0) := by
  unfold State.merWord
  generalize s.hie = hie
  generalize s.me = me
  revert hie me; decide

/-- A read whose register word is known responds it and changes nothing else. -/
theorem next_respond {s : State} {v w : Word} (h : v = w) :
    (.next (s.respond v) : Result) = .next { s with resp := .value w } := by
  rw [h, State.respond]

/-- Settles O33: the response of each row, and ISR has no WR row. -/
theorem controllerReads : Obligations.ControllerReads :=
  ⟨by decide, by decide, by decide, by decide, fun s => next_respond (flagWord_eq s.isr), fun s => next_respond s.ipr_word,
    fun s => next_respond (flagWord_eq s.ier), fun s => next_respond s.merWord_eq,
    fun cfg a D ha => decode_encodeWr cfg a ha .isr D⟩

/-! ### The registers as written (42_interrupt_ack R155, R156, R158) -/

/-- Settles O34: the three writes, their reserved bits above bit 0 or bit 1, and IAR has no RD row. -/
theorem controllerWrites : Obligations.ControllerWrites := by
  refine ⟨fun d => encodeWr_eq_or_data .ier d, fun d => encodeWr_eq_or_data .iar d, fun d => encodeWr_eq_or_data .mer d,
    fun s d => rfl, exec_wrIntcIar, fun s d => rfl, fun cfg a D ha => ⟨fun hD => ?_, fun hD => ?_, fun hD => ?_,
    fun _ => decode_encodeRd cfg a ha .iar⟩⟩
  · exact decode_encodeWr_reserved ha rfl (setsReserved_of_upper 1 31 rfl rfl hD)
  · exact decode_encodeWr_reserved ha rfl (setsReserved_of_upper 1 31 rfl rfl hD)
  · exact decode_encodeWr_reserved ha rfl (setsReserved_of_upper 2 30 rfl rfl hD)

/-! ### The latch (42_interrupt_ack R150) -/

/-- Settles O35: a step that answers is the move's step ended by the latch. -/
theorem everyStepEndsWithTheLatch : Obligations.EveryStepEndsWithTheLatch := by
  intro s t h
  obtain ⟨-, u, hu, ht⟩ := step_cases h
  exact ⟨⟨u, hu, ht⟩, step_latches h⟩

/-! ### What makes IRQ fall (42_interrupt_ack R151) -/

theorem State.irq_iff (s : State) : s.irq = true ↔ s.me = true ∧ s.isr = true ∧ s.ier = true := by
  simp [State.irq, State.ipr]

/-- IRQ after the latch: the source may be ISR as it was, or the line under HIE (10_state R41, 42_interrupt_ack R150). -/
theorem State.latch_irq_iff (s : State) : s.latch.irq = true
    ↔ s.me = true ∧ (s.isr = true ∨ (s.hie = true ∧ s.tmrIrq = true)) ∧ s.ier = true := by
  simp [State.irq_iff]

/-- ISR, IER and ME keep IRQ up where they stand, and after an acknowledge the line does so under HIE. -/
theorem ControllerMove.irq_falls {i : Instr} {s t : State} (hm : ControllerMove s t i)
    (hsound : s.isr = true → s.hie = true) (hirq : s.irq = true) (hfall : t.latch.irq = false) :
    (∃ d : Word, i = .wrIntcIar d ∧ d.getLsbD 0 = true ∧ t.tmrIrq = false)
    ∨ (∃ d : Word, i = .wrIntcIer d ∧ d.getLsbD 0 = false)
    ∨ (∃ d : Word, i = .wrIntcMer d ∧ d.getLsbD 0 = false)
    ∨ i = .reset := by
  obtain ⟨hme, hisr, hier⟩ := s.irq_iff.1 hirq
  have hdown := mt t.latch_irq_iff.2 (Bool.eq_false_iff.1 hfall)
  cases hm with
  | stays isr ier me => exact absurd ⟨me.trans hme, .inl (isr.trans hisr), ier.trans hier⟩ hdown
  | ierWritten isr ier me =>
    have hmask := fun hd => hdown ⟨me.trans hme, .inl (isr.trans hisr), ier.trans hd⟩
    exact .inr (.inl ⟨_, rfl, Bool.eq_false_iff.2 hmask⟩)
  | merWritten isr ier me =>
    have hmask := fun hd => hdown ⟨me.trans hd, .inl (isr.trans hisr), ier.trans hier⟩
    exact .inr (.inr (.inl ⟨_, rfl, Bool.eq_false_iff.2 hmask⟩))
  | acknowledged isr ier me hie =>
    have hack := fun hd => hdown ⟨me.trans hme, .inl ((isr.trans (if_neg hd)).trans hisr), ier.trans hier⟩
    have hline := fun hl => hdown ⟨me.trans hme, .inr ⟨hie.trans (hsound hisr), hl⟩, ier.trans hier⟩
    exact .inl ⟨_, rfl, Decidable.not_not.1 hack, Bool.eq_false_iff.2 hline⟩
  | reset => exact .inr (.inr (.inr rfl))

/-- Settles O36. -/
theorem irqFallsOnlyByTheFourWays : Obligations.IrqFallsOnlyByTheFourWays :=
  fun _ _ _ hsound h => (exec_controllerMove h).irq_falls hsound

/-! ### The acknowledge (42_interrupt_ack R162) -/

/-- Nothing but an acknowledge with bit 0 set and RESET clears ISR. -/
theorem ControllerMove.keeps_isr {i : Instr} {s t : State} (hm : ControllerMove s t i) (hisr : s.isr = true)
    (hreset : i ≠ .reset) (hack : ∀ d : Word, i = .wrIntcIar d → d.getLsbD 0 = false) : t.isr = true := by
  cases hm with
  | stays isr | ierWritten isr | merWritten isr => exact isr.trans hisr
  | acknowledged isr =>
    rw [hack _ rfl] at isr
    exact isr.trans hisr
  | reset => exact absurd rfl hreset

/-- Settles O37: the acknowledge leaves ISR to the latch and the line as it was; every other operation keeps a set ISR, and
so does the latch. -/
theorem acknowledgeOrderLaw : Obligations.AcknowledgeOrderLaw := by
  refine ⟨fun s t d hd hhie h => ?_, fun i s t h hisr hreset hack => ?_⟩
  · rw [exec_wrIntcIar, if_pos hd] at h
    cases h
    show (false || (s.hie && s.tmrIrq)) = s.tmrIrq
    rw [hhie, Bool.true_and, Bool.false_or]
  · exact Bool.or_eq_true_iff.2 (.inl ((exec_controllerMove h).keeps_isr hisr hreset hack))

/-! ### The host enable and the blink flag (42_interrupt_ack R159, R160, R161) -/

/-- Settles O38: the three meanings, and the refusals by the issuer check of the decoder. -/
theorem hostEnableAndBlinkFlag : Obligations.HostEnableAndBlinkFlag := by
  have hstrobe : encode .strobeBlinkToggle = 0x4000000100000000 := by decide
  refine ⟨by decide, hstrobe, by decide, fun s v => rfl, fun s => ⟨!s.blink, by cases s.blink <;> decide, rfl⟩,
    fun s => next_respond (flagWord_eq s.blink), fun cfg a D ha => decode_encodeOther_wrongIssuer 0 D (mayIssue_setie ha),
    fun cfg a ha => ?_⟩
  rw [← hstrobe]
  exact decode_encodeOther_wrongIssuer 1 0 (mayIssue_strobe ha)

end Machine
end Sys2Proof
end

section
/-! PROOFS. The statements of 43_pwm: the tick, one and many of them, the duty and phase registers, the output port, and
what moves an output pin. The layers they share are `State.tickedTo`, the state a tick leaves, with the count of a full
period, and `exec_outputMove`: which operations may write the output port. -/

namespace Sys2Proof

/-! ### The words of the duty registers and the output port (30_encoding R82, R88) -/

theorem encode_rdCoreDuty (k : Fin 3) :
    encode (.rdCoreDuty k) = 0x0400000000000000 ||| (BitVec.ofNat 64 (0x10 + 4 * k.val) <<< 32) := by
  revert k; decide

theorem encode_wrCoreDuty (k : Fin 3) (d : Word) :
    encode (.wrCoreDuty k d)
      = 0x1400000000000000 ||| (BitVec.ofNat 64 (0x10 + 4 * k.val) <<< 32) ||| d.setWidth 64 := by
  have hword : ∀ k : Fin 3, encodeWr (.duty (k.castLE (by decide))) 0
      = 0x1400000000000000 ||| (BitVec.ofNat 64 (0x10 + 4 * k.val) <<< 32) := by decide
  rw [encode, encodeWr_eq_or_data, hword]

theorem encode_wrGpioOutData (d : Word) : encode (.wrGpioOutData d) = 0x1100000000000000 ||| d.setWidth 64 :=
  encodeWr_eq_or_data .gpioOutData d

theorem encode_wrGpioOutTri (d : Word) : encode (.wrGpioOutTri d) = 0x1100000400000000 ||| d.setWidth 64 :=
  encodeWr_eq_or_data .gpioOutTri d

/-- The bits of the output port at or above N_PWM are reserved (10_state R28, R29). -/
theorem setsReserved_of_channel {cfg : Config} {r : Reg} {d : Word} {j : Fin 32}
    (hr : r.writableBits cfg = lowMask cfg.nPwm.val) (hj : cfg.nPwm.val ≤ j.val) (hd : d.getLsbD j.val = true) :
    r.setsReserved cfg d = true := by
  refine setsReserved_of_bit cfg r d j hd ?_
  rw [hr, lowMask_getLsbD _ _ (by omega)]
  exact decide_eq_false (Nat.not_lt.2 hj)

/-- A duty index that does not exist is refused before the data is looked at (30_encoding R88). -/
theorem decode_duty_index {cfg : Config} {a : Agent} {k : Fin 4} (D : Word) (ha : a = .host ∨ a = .seq)
    (hk : cfg.nPwm.val ≤ k.val) :
    decode cfg a (encodeWr (.duty k) D) = .refuse .indexRange
    ∧ decode cfg a (encodeRd (.duty k)) = .refuse .indexRange := by
  have hk : ¬ k.val < cfg.nPwm.val := Nat.not_lt.2 hk
  constructor
  · rw [decode_encodeWr cfg a ha, writeOp, dif_neg hk]
  · rw [decode_encodeRd cfg a ha, readOp, dif_neg hk]

namespace Machine

/-- A word restricted to the PWM channels, bit by bit. -/
theorem and_channels_getLsbD (cfg : Config) (w : Word) (j : Nat) :
    (w &&& lowMask cfg.nPwm.val).getLsbD j = (decide (j < cfg.nPwm.val) && w.getLsbD j) :=
  and_lowMask_getLsbD w _ j (by omega)

/-- There is no output bit above the channels (43_pwm R170). -/
theorem pwmWord_getLsbD_of_ge {cfg : Config} {j : Nat} (p : Byte) (duty : Vector Byte 3) (hj : cfg.nPwm.val ≤ j) :
    (pwmWord cfg p duty).getLsbD j = false := by
  rw [pwmWord_getLsbD, decide_eq_false (Nat.not_lt.2 hj), Bool.false_and]

/-! ### One tick (43_pwm R170, R181) -/

/-- The state after a tick that makes the phase p. -/
def State.tickedTo (s : State) (p : Byte) : State :=
  { s with phase := p, gpioOutData := pwmWord s.cfg p s.duty }.complete

@[simp] theorem State.tickedTo_phase (s : State) (p : Byte) : (s.tickedTo p).phase = p := rfl

@[simp] theorem State.tickedTo_gpioOutData (s : State) (p : Byte) :
    (s.tickedTo p).gpioOutData = pwmWord s.cfg p s.duty := rfl

theorem exec_tick_directed {s : State} (h : s.triWrittenOut = true) :
    exec .strobePwmTick s = .next (s.tickedTo (s.phase + 1)) :=
  if_pos h

theorem exec_tick_undirected {s : State} (h : s.triWrittenOut = false) :
    exec .strobePwmTick s = .next (s.raiseFault .dataBeforeDirection .strobePwmTick) :=
  if_neg (by simp [h])

/-- Settles O39: the bits of the packed word at the new phase, and the refusal by the issuer check of the decoder. -/
theorem pwmTickComparesTheNewPhase : Obligations.PwmTickComparesTheNewPhase := by
  have hstrobe : encode .strobePwmTick = 0x4000000000000000 := by decide
  refine ⟨hstrobe,
    fun s h => ⟨s.phase + 1, pwmWord s.cfg (s.phase + 1) s.duty, BitVec.toNat_add _ _, exec_tick_directed h,
      pwmWord_channel _ _ _, fun j => pwmWord_getLsbD_of_ge _ _⟩,
    fun s h => ⟨s.steps, ?_⟩, fun cfg a ha => ?_⟩
  · rw [exec_tick_undirected h, State.raiseFault, hstrobe]
  · rw [← hstrobe]
    exact decode_encodeOther_wrongIssuer 0 0 (mayIssue_strobe ha)

/-- Settles O42: the bit compares the new phase with the duty of its channel. -/
theorem pwmChannelsAreIndependent : Obligations.PwmChannelsAreIndependent := by
  intro s₁ s₂ t₁ t₂ k h₁ h₂ hk₁ hk₂ hphase hduty ht₁ ht₂
  rw [exec_tick_directed h₁] at ht₁
  rw [exec_tick_directed h₂] at ht₂
  cases ht₁
  cases ht₂
  rw [State.tickedTo_gpioOutData, State.tickedTo_gpioOutData, pwmWord_channel _ _ _ k hk₁,
    pwmWord_channel _ _ _ k hk₂, hphase, hduty]

/-! ### Many ticks (43_pwm R178, R182) -/

/-- Settles O41, by induction on the number of ticks. -/
theorem phaseCountsTheTicks : Obligations.PhaseCountsTheTicks := by
  intro s n h
  induction n generalizing s with
  | zero => exact ⟨s, rfl, (Nat.mod_eq_of_lt s.phase.isLt).symm, rfl⟩
  | succ n ih =>
    obtain ⟨t, ht, hphase, hduty⟩ := ih (s.tickedTo (s.phase + 1)) h
    have hnext : (s.phase + 1).toNat = (s.phase.toNat + 1) % 256 := BitVec.toNat_add _ _
    rw [State.tickedTo_phase, hnext] at hphase
    exact ⟨t, (execAll_cons _ (exec_tick_directed h)).trans ht, by omega, hduty⟩

theorem ofNat_next (a : Nat) : BitVec.ofNat 8 a + 1 = BitVec.ofNat 8 (a + 1) := (BitVec.ofNat_add a 1).symm

/-- The states of n ticks are those of the n phases that follow: a tick writes again all that the one before it wrote. -/
theorem execTrace_ticks {s : State} (a n : Nat) (h : s.triWrittenOut = true) (ha : s.phase + 1 = BitVec.ofNat 8 a) :
    execTrace (List.replicate n .strobePwmTick) s
      = (List.range' a n).map fun v => s.tickedTo (BitVec.ofNat 8 v) := by
  induction n generalizing s a with
  | zero => rfl
  | succ n ih =>
    have hnext : (s.tickedTo (s.phase + 1)).phase + 1 = BitVec.ofNat 8 (a + 1) := by
      rw [State.tickedTo_phase, ha, ofNat_next]
    rw [List.replicate_succ, execTrace, exec_tick_directed h, List.range'_succ, List.map_cons, ← ha]
    exact congrArg (_ :: ·) (ih (a + 1) h hnext)

/-- 256 consecutive values mod 256 are the values 0 to 255, those before the wrap and those after it exchanged. -/
theorem period_perm_range {a : Nat} (ha : a ≤ 256) : ((List.range' a 256).map (· % 256)).Perm (List.range 256) := by
  have hsplit : List.range' a 256 = List.range' a (256 - a) ++ List.range' 256 a := by
    have happend := List.range'_append (s := a) (m := 256 - a) (n := a) (step := 1)
    rwa [Nat.one_mul, Nat.add_sub_cancel' ha, Nat.sub_add_cancel ha, eq_comm] at happend
  have hbefore : (List.range' a (256 - a)).map (· % 256) = List.range' a (256 - a) := by
    refine (List.map_congr_left fun v hv => ?_).trans (List.map_id _)
    have hv := List.mem_range'_1.1 hv
    exact Nat.mod_eq_of_lt (by omega)
  have hafter : (List.range' 256 a).map (· % 256) = List.range' 0 a := by
    rw [← List.map_add_range' (a := 256) 0 a 1, List.map_map]
    refine (List.map_congr_left fun v hv => ?_).trans (List.map_id _)
    have hv := List.mem_range'_1.1 hv
    show (256 + v) % 256 = v
    omega
  have hjoin : List.range' 0 a ++ List.range' a (256 - a) = List.range' 0 256 := by
    have happend := List.range'_append (s := 0) (m := a) (n := 256 - a) (step := 1)
    rwa [Nat.one_mul, Nat.zero_add, Nat.add_sub_cancel' ha] at happend
  rw [hsplit, List.map_append, hbefore, hafter, List.range_eq_range', ← hjoin]
  exact List.perm_append_comm

/-- The states of a full period with a property of the phase are as many as the phases with it. -/
theorem period_count {s : State} (h : s.triWrittenOut = true) (P : State → Bool) (Q : Nat → Bool)
    (hPQ : ∀ p : Byte, P (s.tickedTo p) = Q p.toNat) :
    ((execTrace (List.replicate 256 .strobePwmTick) s).filter P).length = (List.range 256).countP Q := by
  have hphase : s.phase + 1 = BitVec.ofNat 8 (s.phase.toNat + 1) := by
    rw [← ofNat_next, BitVec.ofNat_toNat, BitVec.setWidth_eq]
  rw [execTrace_ticks (s.phase.toNat + 1) 256 h hphase, ← List.countP_eq_length_filter, List.countP_map,
    ← (period_perm_range s.phase.isLt).countP_eq, List.countP_map]
  exact congrArg (List.countP · _) (funext fun v => hPQ (BitVec.ofNat 8 v))

theorem countP_lt_duty (d : Byte) : (List.range 256).countP (fun v => decide (v < d.toNat)) = d.toNat := by
  have hd : 256 = d.toNat + (256 - d.toNat) := by omega
  have hbelow : (List.range d.toNat).countP (fun v => decide (v < d.toNat)) = (List.range d.toNat).length :=
    List.countP_eq_length.2 fun v hv => decide_eq_true (List.mem_range.1 hv)
  have habove : (List.range (256 - d.toNat)).countP ((fun v => decide (v < d.toNat)) ∘ (d.toNat + ·)) = 0 :=
    List.countP_eq_zero.2 fun v _ hv => Nat.not_lt.2 (Nat.le_add_right _ v) (of_decide_eq_true hv)
  rw [hd, List.range_add, List.countP_append, List.countP_map, hbelow, habove, List.length_range, Nat.add_zero]

/-- The phases that are not below the duty are the rest of the period. -/
theorem countP_not_lt_duty (d : Byte) :
    (List.range 256).countP (fun v => !decide (v < d.toNat)) = 256 - d.toNat := by
  have hlength := List.length_eq_countP_add_countP (fun v => decide (v < d.toNat)) (l := List.range 256)
  simp only [List.length_range, countP_lt_duty, Bool.not_eq_true, Bool.decide_eq_false] at hlength
  omega

theorem countP_eq_phase (p : Byte) : (List.range 256).countP (· == p.toNat) = 1 :=
  List.count_range.trans (if_pos p.isLt)

/-- Settles O40: the period runs through all 256 phases, of which d lie below the duty d. -/
theorem dutyIsTheCountOfActiveTicks : Obligations.DutyIsTheCountOfActiveTicks := by
  intro s k h hk
  have hbit : ∀ p : Byte, (s.tickedTo p).gpioOutData.getLsbD k.val = !decide (p.toNat < s.duty[k].toNat) :=
    fun p => pwmWord_channel s.cfg p s.duty k hk
  refine ⟨?_, ?_, fun p => ?_⟩
  · rw [period_count h _ (fun v => decide (v < s.duty[k].toNat)) fun p => by rw [hbit, Bool.not_not], countP_lt_duty]
  · rw [period_count h _ (fun v => !decide (v < s.duty[k].toNat)) hbit, countP_not_lt_duty]
  · have hphase : ∀ q : Byte, ((s.tickedTo q).phase == p) = (q.toNat == p.toNat) := fun q => by
      rw [State.tickedTo_phase, Bool.beq_eq_decide_eq, Bool.beq_eq_decide_eq]
      exact decide_eq_decide.2 BitVec.toNat_inj.symm
    rw [period_count h _ (· == p.toNat) hphase, countP_eq_phase]

/-! ### The duty and phase registers (43_pwm R171 to R173) -/

/-- Settles O43: the words, the three meanings, and the decoder's checks on the index, the data and the direction. -/
theorem dutyAndPhaseRegisters : Obligations.DutyAndPhaseRegisters := by
  refine ⟨encode_wrCoreDuty, encode_rdCoreDuty, by decide, fun s k d => ?_,
    fun s k => ⟨s.duty[k].setWidth 32, BitVec.toNat_setWidth_of_le (by decide), rfl⟩,
    fun s => ⟨s.phase.setWidth 32, BitVec.toNat_setWidth_of_le (by decide), rfl⟩,
    fun cfg a k D ha hk => decode_duty_index D ha hk,
    fun cfg a k D ha hk hD => decode_encodeWr_reserved ha (dif_pos hk) (setsReserved_of_upper 8 24 rfl rfl hD),
    fun cfg a D ha => decode_encodeWr cfg a ha .phase D⟩
  rw [BitVec.setWidth_eq_extractLsb' (by decide)]
  rfl

/-! ### The output port (43_pwm R174 to R177) -/

theorem exec_rdGpioOutData_undirected {s : State} (h : s.triWrittenOut = false) :
    exec .rdGpioOutData s = .next (s.raiseFault .dataBeforeDirection .rdGpioOutData) :=
  if_neg (by simp [h])

theorem exec_wrGpioOutData_undirected {s : State} (d : Word) (h : s.triWrittenOut = false) :
    exec (.wrGpioOutData d) s = .next (s.raiseFault .dataBeforeDirection (.wrGpioOutData d)) :=
  if_neg (by simp [h])

theorem exec_wrGpioOutTri_again {s : State} (d : Word) (h : s.triWrittenOut = true) :
    exec (.wrGpioOutTri d) s = .next (s.raiseFault .directionRewritten (.wrGpioOutTri d)) :=
  if_pos h

/-- Settles O44: both accesses are masked to the channels after the direction write and fault before it. -/
theorem outputLatchAccess : Obligations.OutputLatchAccess := by
  have hrd : encode .rdGpioOutData = 0x0100000000000000 := by decide
  refine ⟨hrd, encode_wrGpioOutData,
    fun s h => ⟨s.gpioOutData &&& lowMask s.cfg.nPwm.val, if_pos h, fun j => and_channels_getLsbD s.cfg _ j.val⟩,
    fun s d h => ⟨d &&& lowMask s.cfg.nPwm.val, if_pos h, fun j => and_channels_getLsbD s.cfg d j.val⟩,
    fun s h => ⟨s.steps, ?_⟩, fun s d h => ⟨s.steps, ?_⟩,
    fun cfg a D j ha hj hD => decode_encodeWr_reserved ha rfl (setsReserved_of_channel rfl hj hD)⟩
  · rw [exec_rdGpioOutData_undirected h, State.raiseFault, hrd]
  · rw [exec_wrGpioOutData_undirected d h, State.raiseFault, encode_wrGpioOutData]

/-- Settles O45: the flag decides between the write and the fault, and the read has no condition. -/
theorem outputDirectionIsWrittenOnceAndReadBack : Obligations.OutputDirectionIsWrittenOnceAndReadBack := by
  refine ⟨by decide, encode_wrGpioOutTri,
    fun s => ⟨s.gpioOutTri &&& lowMask s.cfg.nPwm.val, rfl, fun j => and_channels_getLsbD s.cfg _ j.val⟩,
    fun s d h => ⟨d &&& lowMask s.cfg.nPwm.val, if_neg (by simp [h]), fun j => and_channels_getLsbD s.cfg d j.val⟩,
    fun s d h => ⟨s.steps, ?_⟩,
    fun cfg a D j ha hj hD => decode_encodeWr_reserved ha rfl (setsReserved_of_channel rfl hj hD)⟩
  rw [exec_wrGpioOutTri_again d h, State.raiseFault, encode_wrGpioOutTri]

/-! ### What moves an output pin (43_pwm R180, R183) -/

/-- The operations that may write the output latch or direction; any other leaves both alone (43_pwm R180). -/
inductive OutputMove (s t : State) : Instr → Prop
  | stays {i : Instr} (latch : t.gpioOutData = s.gpioOutData) (direction : t.gpioOutTri = s.gpioOutTri) :
      OutputMove s t i
  | ticked : OutputMove s t .strobePwmTick
  | latched {d : Word} : OutputMove s t (.wrGpioOutData d)
  | directed {d : Word} (latch : t.gpioOutData = s.gpioOutData) : OutputMove s t (.wrGpioOutTri d)
  | reset : OutputMove s t .reset

theorem exec_outputMove {i : Instr} {s t : State} (h : exec i s = .next t) : OutputMove s t i := by
  cases i with
  | strobePwmTick => exact .ticked
  | wrGpioOutData d => exact .latched
  | reset => exact .reset
  | wrGpioOutTri d =>
    simp only [exec, execWrGpioOutTri] at h
    split at h <;> cases h <;> exact .directed rfl
  | wrTmrTcsr c d | wrTmrTlr c d | tclk c =>
    rw [channelOp_frame rfl h]
    exact .stays rfl rfl
  | rdGpioInData | rdGpioOutData | wrGpioInTri d | sample n raw =>
    simp only [exec, execRdGpioInData, execRdGpioOutData, execWrGpioInTri, execSample] at h
    split at h <;> cases h <;> exact .stays rfl rfl
  | _ => cases h; exact .stays rfl rfl

/-- A pin is a function of the configuration, the latch and the direction (10_state R31). -/
theorem State.pwmPin_congr {s t : State} (k : Fin 3) (hcfg : t.cfg = s.cfg) (hlatch : t.gpioOutData = s.gpioOutData)
    (hdirection : t.gpioOutTri = s.gpioOutTri) : t.pwmPin k = s.pwmPin k := by
  rw [State.pwmPin, hcfg, hlatch, hdirection, State.pwmPin]

/-- Settles O46: an operation that is none of the four keeps the latch, the direction and the configuration. -/
theorem outputPinsAreGlitchFree : Obligations.OutputPinsAreGlitchFree := by
  refine ⟨fun i s t k h hpin => ?_, fun i s t h hlatch => ?_, fun s k hk => ?_, fun s k => State.pwmPin_of_ge⟩
  · cases exec_outputMove h with
    | stays latch direction =>
      obtain ⟨hcfg, -⟩ := exec_keeps h
      exact absurd (State.pwmPin_congr k hcfg latch direction) hpin
    | ticked => exact .inl rfl
    | latched => exact .inr (.inl ⟨_, rfl⟩)
    | directed => exact .inr (.inr (.inl ⟨_, rfl⟩))
    | reset => exact .inr (.inr (.inr rfl))
  · cases exec_outputMove h with
    | stays latch | directed latch => exact absurd latch hlatch
    | ticked => exact .inl rfl
    | latched => exact .inr (.inl ⟨_, rfl⟩)
    | reset => exact .inr (.inr rfl)
  · rw [State.pwmPin_of_lt hk]
    cases s.gpioOutTri.getLsbD k.val <;> rfl

end Machine
end Sys2Proof
end

section
/-! PROOFS. The statements of 60_exceptions: which states have a step, what a fault and a refusal leave, the rows of the
handler's table, and one whole invocation. The layers they share are the row equations `handlerStep_*_row`, one per
position of the sequencer, and `BusyRun`, a run of the sequencer that is not yet back at IDLE. -/

namespace Sys2Proof.Machine

/-! ### Steps and refused words (60_exceptions R200, R201) -/

/-- A faulted state has no step (60_exceptions R200; log 3). -/
theorem step_of_faulted {s : State} (hf : s.faults ≠ []) : step s = .fault .quiescent :=
  if_pos (by simpa [State.faulted] using hf)

/-- Settles O9: every move answers a next state, so only the fault check stops a step. -/
theorem onlyFaultedStatesAreQuiescent : Obligations.OnlyFaultedStatesAreQuiescent := by
  refine fun s => ⟨step_of_faulted, fun hf => ?_⟩
  obtain ⟨u, hu⟩ := perform_next s.nextInput s.popInput
  exact ⟨u.endStep, step_of_perform hf hu⟩

/-- A scheduled word of HOST at IDLE, TIMER or ENV is the step of the machine (20_memory R60, R61, R63). -/
theorem step_of_word {s u : State} {a : Agent} {m : Input} {rest : List Input} {T : Txn} (hf : s.faults = [])
    (hin : s.inputs = m :: rest)
    (hm : (m = .host T ∧ a = .host ∧ s.seq = .idle) ∨ (m = .timer T ∧ a = .timer) ∨ (m = .env T ∧ a = .env))
    (hu : transaction a T { s with inputs := rest } = .next u) : step s = .next u.endStep := by
  obtain ⟨rfl, rfl, hseq⟩ | ⟨rfl, rfl⟩ | ⟨rfl, rfl⟩ := hm
  · exact step_of_pickInput (m := .host T) hf (hin ▸ State.pickInput_host_idle T rest hseq) hu
  · exact step_of_pickInput (m := .timer T) hf (hin ▸ rfl) hu
  · exact step_of_pickInput (m := .env T) hf (hin ▸ rfl) hu

/-- Settles O10: the transaction of the word is the decoder's refusal, and the step ends with the latch. -/
theorem refusedWordOnlyMarksTheState : Obligations.RefusedWordOnlyMarksTheState := by
  intro s a m rest T r hf hin hm hr
  exact step_of_word hf hin hm (transaction_of_refuse (s := { s with inputs := rest }) hr)

/-! ### The one refusal of an operation (60_exceptions R203) -/

/-- No operation but a WR TCSR is refused when it executes. -/
theorem exec_not_refused {i : Instr} {s t : State} (hi : ∀ c d, i ≠ .wrTmrTcsr c d) (h : exec i s = .next t) :
    t.refused = s.refused ∧ ∀ r, t.resp ≠ .refused r := by
  cases i with
  | wrTmrTcsr c d => exact absurd rfl (hi c d)
  | tclk c => obtain ⟨-, rfl⟩ | ⟨-, -, rfl⟩ | ⟨-, -, rfl⟩ := tclk_cases h <;> exact ⟨rfl, nofun⟩
  | rdGpioInData | rdGpioOutData | wrGpioInTri d | wrGpioOutData d | wrGpioOutTri d | wrTmrTlr c d | sample n raw
  | strobePwmTick =>
    simp only [exec, execRdGpioInData, execRdGpioOutData, execWrGpioInTri, execWrGpioOutData, execWrGpioOutTri,
      execWrTmrTlr, execSample, execStrobePwmTick] at h
    split at h <;> cases h <;> exact ⟨rfl, nofun⟩
  | _ => cases h; exact ⟨rfl, nofun⟩

/-- Settles O12: of the four ways a WR TCSR can go only one refuses. -/
theorem executeRefusesOnlyUnsupportedTimerModes : Obligations.ExecuteRefusesOnlyUnsupportedTimerModes := by
  refine ⟨fun i s t h => ?_, rfl⟩
  by_cases hi : ∃ c d, i = .wrTmrTcsr c d
  · obtain ⟨c, d, rfl⟩ := hi
    obtain ⟨rfl, -⟩ | ⟨rfl, -⟩ | ⟨rfl, hstop, h7, hd⟩ | ⟨rfl, -⟩ := wrTmrTcsr_cases h
    · exact .inl ⟨rfl, nofun⟩
    · exact .inl ⟨rfl, nofun⟩
    · exact .inr ⟨c, d, rfl, hstop, h7, (isStartValue_eq_false_iff d).1 hd, rfl⟩
    · exact .inl ⟨rfl, nofun⟩
  · exact .inl (exec_not_refused (fun c d e => hi ⟨c, d, e⟩) h)

/-! ### The causes of the fault table (60_exceptions R202) -/

/-- Where the table gives a WR TCSR a cause, the write stops with it. -/
theorem wrTmrTcsr_of_faultCause {c : Fin 2} {d : Word} {s : State} {code : FaultCode}
    (h : faultCause s (.wrTmrTcsr c d) = some code) :
    exec (.wrTmrTcsr c d) s = .next (s.raiseFault code (.wrTmrTcsr c d)) := by
  rw [faultCause] at h
  split at h
  · rename_i hrunning
    obtain ⟨hrun, hd⟩ := hrunning
    cases h
    exact wrTmrTcsr_reconfigured hrun ((isStartValue_eq_false_iff d).2 hd)
  · obtain ⟨⟨hdis, hd⟩, ⟨⟩⟩ := Option.ite_none_right_eq_some.1 h
    exact wrTmrTcsr_notConfigured hdis ((isStartValue_iff d).2 hd)

/-- Where the table gives a cause, the operation raises that fault and does nothing else. -/
theorem exec_of_faultCause {i : Instr} {s : State} {code : FaultCode} (h : faultCause s i = some code) :
    exec i s = .next (s.raiseFault code i) := by
  cases i with
  | sample n raw | rdGpioInData | strobePwmTick | rdGpioOutData | wrGpioOutData d =>
    obtain ⟨hdir, ⟨⟩⟩ := Option.ite_none_right_eq_some.1 h
    exact if_neg (Bool.eq_false_iff.1 hdir)
  | wrGpioInTri d | wrGpioOutTri d | wrTmrTlr c d =>
    obtain ⟨hcause, ⟨⟩⟩ := Option.ite_none_right_eq_some.1 h
    exact if_pos hcause
  | wrTmrTcsr c d => exact wrTmrTcsr_of_faultCause h
  | _ => cases h

/-- A row of the table with one condition gives nothing only where the condition fails. -/
theorem not_of_ite_eq_none {p : Prop} [Decidable p] {code : FaultCode} (h : (if p then some code else none) = none) :
    ¬ p := by
  intro hp
  rw [if_pos hp] at h
  cases h

theorem wrTmrTcsr_faults_of_no_cause {c : Fin 2} {d : Word} {s t : State}
    (hnone : faultCause s (.wrTmrTcsr c d) = none) (h : exec (.wrTmrTcsr c d) s = .next t) : t.faults = s.faults := by
  obtain ⟨rfl, -⟩ | ⟨-, hrun, hd⟩ | ⟨rfl, -⟩ | ⟨-, hdis, hd⟩ := wrTmrTcsr_cases h
  · rfl
  · rw [faultCause, if_pos ⟨hrun, (isStartValue_eq_false_iff d).1 hd⟩] at hnone
    cases hnone
  · rfl
  · have hd := (isStartValue_iff d).1 hd
    rw [faultCause, if_neg (fun ⟨_, hne⟩ => hne hd), if_pos ⟨hdis, hd⟩] at hnone
    cases hnone

/-- Where the table gives no cause, FAULTS stays. -/
theorem exec_faults_of_no_cause {i : Instr} {s t : State} (hnone : faultCause s i = none) (h : exec i s = .next t) :
    t.faults = s.faults := by
  cases i with
  | sample n raw | rdGpioInData | strobePwmTick | rdGpioOutData | wrGpioOutData d =>
    have hdir := eq_true_of_ne_false (not_of_ite_eq_none hnone)
    simp only [exec, execSample, execRdGpioInData, execStrobePwmTick, execRdGpioOutData, execWrGpioOutData,
      if_pos hdir] at h
    cases h
    rfl
  | wrGpioInTri d | wrGpioOutTri d | wrTmrTlr c d =>
    have hcause := not_of_ite_eq_none hnone
    simp only [exec, execWrGpioInTri, execWrGpioOutTri, execWrTmrTlr, if_neg hcause] at h
    cases h
    rfl
  | wrTmrTcsr c d => exact wrTmrTcsr_faults_of_no_cause hnone h
  | tclk c => obtain ⟨-, rfl⟩ | ⟨-, -, rfl⟩ | ⟨-, -, rfl⟩ := tclk_cases h <;> rfl
  | _ => cases h; rfl

/-! ### The handler's table, row by row (60_exceptions R210, R212 to R216) -/

/-- `next(c)`: there is at most one channel after c (60_exceptions R210). -/
theorem Seq.afterChannel_eq (cfg : Config) (c : Fin 2) :
    Seq.afterChannel cfg c = if c.val + 1 < cfg.nTch.val then .rd 1 else .iar := by
  unfold Seq.afterChannel
  split
  · exact congrArg Seq.rd (Fin.ext (by simp only [Fin.val_one]; omega))
  · rfl

theorem handlerStep_rd_row {s : State} {c : Fin 2} (hseq : s.seq = .rd c) (hc : c.val < s.cfg.nTch.val) :
    handlerStep s = .next { s with
      issuer := .seq, v := s.timers[c].tcsr.toWord, resp := .value s.timers[c].tcsr.toWord
      seq := if s.timers[c].tcsr.tint then .ack c else .afterChannel s.cfg c } := by
  have hbit : s.timers[c].tcsr.toWord.getLsbD 8 = s.timers[c].tcsr.tint := s.timers[c].tcsr.toWord_getLsbD 8
  rw [handlerStep_rd hseq hc, ← hbit]
  rfl

/-- The latched status word of a pending channel, written back, clears the flag and nothing else (60_exceptions R213). -/
theorem Timer.writeTcsr_pending {x : Timer} (hx : x.tcsr.Sound) (ht : x.tcsr.tint = true) :
    x.writeTcsr 0x1D2 = x.acknowledged := by
  obtain ⟨⟨udt, arht, load, enit, ent, tint⟩, tlr, tcr⟩ := x
  obtain ⟨hrun, hmode⟩ := hx
  obtain ⟨rfl, rfl, rfl, rfl⟩ := hmode (hrun ht)
  obtain rfl : ent = true := hrun ht
  obtain rfl : tint = true := ht
  rfl

theorem handlerStep_ack_row {s : State} {c : Fin 2} (hseq : s.seq = .ack c) (hc : c.val < s.cfg.nTch.val)
    (hv : s.v = 0x1D2) (hx : s.timers[c].tcsr.Sound) (ht : s.timers[c].tcsr.tint = true) :
    handlerStep s = .next { s with
      issuer := .seq, timers := s.timers.set c s.timers[c].acknowledged, resp := .silent, seq := .act c } := by
  rw [handlerStep_ack hseq hc hv ((Tcsr.tstate_running _).2 (hx.1 ht)), ← Timer.writeTcsr_pending hx ht]
  rfl

/-- ACT(c) with a strobe is the strobe, then next(c) unless it faulted (60_exceptions R214). -/
theorem handlerStep_act_strobe {s u : State} {c : Fin 2} {i : Instr} (hseq : s.seq = .act c)
    (hi : actionStrobe s.cfg.chAction[c] = some i) (hx : exec i { s with issuer := .seq } = .next u) :
    handlerStep s = thenSeq (.next u) fun t => { t with seq := .afterChannel t.cfg c } := by
  have hop : decode s.cfg .seq (encode i) = .op i := by
    cases hact : s.cfg.chAction[c] <;> rw [hact] at hi <;> cases hi <;>
      exact encodeThenDecodeReturnsTheInstruction _ _ _ rfl rfl
  simp only [handlerStep, hseq, actStep, hi]
  rw [transaction_of_op hop, hx]

theorem handlerStep_act_row {s : State} {c : Fin 2} (hseq : s.seq = .act c)
    (hdir : s.cfg.chAction[c] = .pwmTick → s.triWrittenOut = true) :
    handlerStep s = .next { s with
      issuer := .seq, resp := .silent, seq := .afterChannel s.cfg c
      phase := if s.cfg.chAction[c] = .pwmTick then s.phase + 1 else s.phase
      gpioOutData := if s.cfg.chAction[c] = .pwmTick then pwmWord s.cfg (s.phase + 1) s.duty else s.gpioOutData
      blink := if s.cfg.chAction[c] = .blinkToggle then !s.blink else s.blink } := by
  cases hact : s.cfg.chAction[c] with
  | pwmTick =>
    rw [handlerStep_act_strobe hseq (by rw [hact]; rfl) (exec_tick_directed (s := { s with issuer := .seq }) (hdir hact))]
    rfl
  | blinkToggle =>
    rw [handlerStep_act_strobe (i := .strobeBlinkToggle) hseq (by rw [hact]; rfl) rfl]
    rfl
  | none =>
    simp only [handlerStep, hseq, actStep, hact]
    rfl

/-- A tick before the direction write leaves the sequencer at ACT(c) (60_exceptions R214; log 24). -/
theorem handlerStep_act_undirected {s : State} {c : Fin 2} (hseq : s.seq = .act c)
    (hact : s.cfg.chAction[c] = .pwmTick) (hdir : s.triWrittenOut = false) :
    handlerStep s
      = .next (({ s with issuer := .seq } : State).raiseFault .dataBeforeDirection .strobePwmTick) := by
  rw [handlerStep_act_strobe hseq (by rw [hact]; rfl) (exec_tick_undirected (s := { s with issuer := .seq }) hdir)]
  rfl

theorem handlerStep_iar_row {s : State} (hseq : s.seq = .iar) :
    handlerStep s = .next { s with issuer := .seq, isr := false, resp := .silent, seq := .ret } := by
  have hdata : wellFormed s.cfg (.wrIntcIar 1) = true := by
    rw [wellFormed, Reg.setsReserved, Reg.writableBits]
    decide
  have hop : decode s.cfg .seq (encode (.wrIntcIar 1)) = .op (.wrIntcIar 1) :=
    encodeThenDecodeReturnsTheInstruction _ _ _ hdata rfl
  simp only [handlerStep, hseq]
  rw [transaction_of_op hop, exec_wrIntcIar]
  rfl

theorem handlerStep_ret_row {s : State} (hseq : s.seq = .ret) :
    handlerStep s = .next { s with issuer := .seq, resp := .silent, seq := .idle } := by
  rw [handlerStep, hseq]
  rfl

theorem handlerStep_idle_row {s : State} (hseq : s.seq = .idle) :
    handlerStep s = .next { s with issuer := .seq, resp := .silent, seq := .rd 0 } := by
  rw [handlerStep, hseq]
  rfl

/-- Settles O49: the rows, with the position and the latch of the invariant. -/
theorem handlerStepsFollowTheTable : Obligations.HandlerStepsFollowTheTable := by
  intro s hs
  refine ⟨fun c hseq => ?_, fun c hseq => ?_, fun c hseq hdir => ?_, fun c hseq hact hdir => ?_,
    handlerStep_iar_row, handlerStep_ret_row⟩
  · rw [handlerStep_rd_row hseq ((State.handlerSound_iff_channel (.inl hseq)).1 hs.handlerSound), Seq.afterChannel_eq]
  · obtain ⟨hc, hv, ht⟩ := (State.handlerSound_iff_ack hseq).1 hs.handlerSound
    exact handlerStep_ack_row hseq hc hv (hs.timersSound c).1 ht
  · refine ⟨_, handlerStep_act_row hseq hdir, ?_, fun hact => if_neg hact, fun hact k hk => ?_⟩
    · rw [Seq.afterChannel_eq]
    · rw [if_pos hact, if_pos hact]
      exact pwmWord_channel s.cfg _ s.duty k hk
  · have hstrobe : encode .strobePwmTick = 0x4000000000000000 := by decide
    rw [handlerStep_act_undirected hseq hact hdir, State.raiseFault, hstrobe]

/-! ### What a sequencer step writes (60_exceptions R217) -/

/-- What a sequencer step may write: its position and latch, one acknowledge, the state of an action, ISR, and a record at
ACT (60_exceptions R214, R217). -/
structure HandlerWrites (s t : State) : Prop where
  frame : t = { s with
    seq := t.seq, v := t.v, timers := t.timers, phase := t.phase, gpioOutData := t.gpioOutData, blink := t.blink
    isr := t.isr, faults := t.faults, issuer := t.issuer, resp := t.resp }
  timers : t.timers = s.timers ∨ ∃ c : Fin 2, t.timers = s.timers.set c s.timers[c].acknowledged
  faults : t.faults = s.faults ∨ ∃ c, s.seq = .act c

theorem handlerStep_writes {s t : State} (hs : s.Inv) (h : handlerStep s = .next t) : HandlerWrites s t := by
  cases hseq : s.seq with
  | idle =>
    cases (handlerStep_idle_row hseq).symm.trans h
    exact ⟨rfl, .inl rfl, .inl rfl⟩
  | rd c =>
    have hc := (State.handlerSound_iff_channel (.inl hseq)).1 hs.handlerSound
    cases (handlerStep_rd_row hseq hc).symm.trans h
    exact ⟨rfl, .inl rfl, .inl rfl⟩
  | ack c =>
    obtain ⟨hc, hv, ht⟩ := (State.handlerSound_iff_ack hseq).1 hs.handlerSound
    cases (handlerStep_ack_row hseq hc hv (hs.timersSound c).1 ht).symm.trans h
    exact ⟨rfl, .inr ⟨c, rfl⟩, .inl rfl⟩
  | act c =>
    by_cases hdir : s.cfg.chAction[c] = .pwmTick → s.triWrittenOut = true
    · cases (handlerStep_act_row hseq hdir).symm.trans h
      exact ⟨rfl, .inl rfl, .inl rfl⟩
    · obtain ⟨hact, hdir⟩ := Classical.not_imp.1 hdir
      cases (handlerStep_act_undirected hseq hact (Bool.eq_false_iff.2 hdir)).symm.trans h
      exact ⟨rfl, .inl rfl, .inr ⟨c, hseq⟩⟩
  | iar =>
    cases (handlerStep_iar_row hseq).symm.trans h
    exact ⟨rfl, .inl rfl, .inl rfl⟩
  | ret =>
    cases (handlerStep_ret_row hseq).symm.trans h
    exact ⟨rfl, .inl rfl, .inl rfl⟩

/-- Settles O11: the cause decides each operation, and a sequencer step records a fault at ACT only. -/
theorem faultsAreThoseOfTheTable : Obligations.FaultsAreThoseOfTheTable := by
  refine ⟨fun i s => ?_, fun s t hs hact h => ?_, rfl⟩
  · cases hcause : faultCause s i with
    | some code => exact ⟨_, exec_of_faultCause hcause, rfl⟩
    | none =>
      obtain ⟨t, ht⟩ := exec_next i s
      exact ⟨t, ht, exec_faults_of_no_cause hcause ht⟩
  · obtain hf | ⟨c, hseq⟩ := (handlerStep_writes hs h).faults
    · exact hf
    · exact absurd hseq (hact c)

/-- An acknowledge touches TINT of its channel only (41_timer R122, R127). -/
theorem acknowledged_keeps (xs : Vector Timer 2) (c c' : Fin 2) :
    (xs.set c xs[c].acknowledged)[c'].tlr = xs[c'].tlr ∧ (xs.set c xs[c].acknowledged)[c'].tcr = xs[c'].tcr
      ∧ (xs.set c xs[c].acknowledged)[c'].tcsr.ent = xs[c'].tcsr.ent := by
  by_cases hc : c = c'
  · subst hc
    rw [channel_set_self]
    exact ⟨rfl, rfl, rfl⟩
  · rw [channel_set_ne _ _ hc]
    exact ⟨rfl, rfl, rfl⟩

/-- Settles O50: the frame of a sequencer step, and the acknowledge for the channels. -/
theorem handlerNeverWritesTheHostsState : Obligations.HandlerNeverWritesTheHostsState := by
  intro s t hs h
  obtain ⟨hframe, htimers, -⟩ := handlerStep_writes hs h
  rw [hframe]
  refine ⟨rfl, rfl, rfl, rfl, rfl, rfl, rfl, rfl, fun c => ?_⟩
  obtain htimers | ⟨c', htimers⟩ := htimers
  · rw [htimers]
    exact ⟨rfl, rfl, rfl⟩
  · rw [htimers]
    exact acknowledged_keeps s.timers c' c

/-! ### The handler's turn at IDLE (60_exceptions R211) -/

theorem State.pickInput_handler_passed {s : State} (rest : List Input) (h : s.handlerEnabled = false) :
    s.pickInput (.handler :: rest) = s.pickInput rest :=
  if_neg (Bool.eq_false_iff.1 h)

/-- The move is picked from the list it is given, whatever schedule the state holds. -/
theorem State.pickInput_of_inputs (s : State) (ins rest : List Input) :
    ({ s with inputs := rest } : State).pickInput ins = s.pickInput ins := by
  induction ins with
  | nil => rfl
  | cons m ins ih =>
    cases m with
    | handler =>
      rw [State.pickInput, State.pickInput, ih]
      rfl
    | _ => rfl

/-- A step depends on the schedule through the move that is picked. -/
theorem step_congr_pickInput {s : State} {rest : List Input} (h : s.pickInput s.inputs = s.pickInput rest) :
    step s = step { s with inputs := rest } := by
  have hpick : s.pickInput s.inputs = ({ s with inputs := rest } : State).pickInput rest :=
    h.trans (s.pickInput_of_inputs rest rest).symm
  have hmove : s.nextInput = ({ s with inputs := rest } : State).nextInput := congrArg Prod.fst hpick
  have hpop : s.popInput = ({ s with inputs := rest } : State).popInput := by
    rw [State.popInput, hpick]
    rfl
  rw [step, agentStep, hmove, hpop]
  rfl

/-- Settles O48: the entry condition decides whether the handler's turn is picked. -/
theorem handlerEntryAtIdleNeedsIrqAndEnable : Obligations.HandlerEntryAtIdleNeedsIrqAndEnable := by
  refine ⟨fun s rest hf hin hseq hirq hie => ?_, fun s rest hin hseq hoff => step_congr_pickInput ?_⟩
  · have hen : s.handlerEnabled = true := by simp [State.handlerEnabled, State.entryEnabled, hseq, hirq, hie]
    have hpick : s.pickInput s.inputs = (.handler, rest) := by
      rw [hin]
      exact if_pos hen
    exact step_of_pickInput hf hpick (handlerStep_idle_row (s := { s with inputs := rest }) hseq)
  · have hdis : s.handlerEnabled = false := by
      simp only [State.handlerEnabled, State.entryEnabled, hseq]
      rcases hoff with hoff | hoff <;> simp [hoff]
    rw [hin]
    exact State.pickInput_handler_passed rest hdis

/-! ### A run of the sequencer that is not yet back at IDLE (60_exceptions R219) -/

/-- n steps of the sequencer alone lead from a state to another, each taken from a position other than IDLE. -/
inductive BusyRun : Nat → State → State → Prop
  | done (s : State) : BusyRun 0 s s
  | step {n : Nat} {s t u : State} (busy : s.seq ≠ .idle) (row : handlerStep s = .next t)
      (rest : BusyRun n t.endStep u) : BusyRun (n + 1) s u

theorem BusyRun.trans {m n : Nat} {s t u : State} (h : BusyRun m s t) (h' : BusyRun n t u) : BusyRun (m + n) s u := by
  induction h with
  | done s => rwa [Nat.zero_add]
  | step busy row _ ih =>
    rw [Nat.succ_add]
    exact .step busy row (ih h')

theorem handlerRun_succ {s t : State} (n : Nat) (h : handlerStep s = .next t) :
    handlerRun (n + 1) s = handlerRun n t.endStep := by
  simp only [handlerRun, h]

theorem BusyRun.handlerRun {n : Nat} {s t : State} (h : BusyRun n s t) : handlerRun n s = some t := by
  induction h with
  | done s => rfl
  | step _ row _ ih => rw [handlerRun_succ _ row, ih]

theorem BusyRun.busy_before {n m : Nat} {s t : State} (h : BusyRun n s t) (hm : m < n) :
    ∃ u, Machine.handlerRun m s = some u ∧ u.seq ≠ .idle := by
  induction h generalizing m with
  | done s => exact absurd hm (Nat.not_lt_zero m)
  | step busy row _ ih =>
    cases m with
    | zero => exact ⟨_, rfl, busy⟩
    | succ m =>
      rw [handlerRun_succ _ row]
      exact ih (Nat.lt_of_succ_lt_succ hm)

/-! ### The channels an invocation has served (60_exceptions R210, R222) -/

/-- The channels below k with a property. -/
def channelsBelow (k : Nat) (P : Fin 2 → Bool) : Nat :=
  (([0, 1] : List (Fin 2)).filter fun c => decide (c.val < k) && P c).length

theorem channelsBelow_succ (P : Fin 2 → Bool) (c : Fin 2) :
    channelsBelow (c.val + 1) P = channelsBelow c.val P + if P c then 1 else 0 := by
  match c with
  | 0 => cases h : P 0 <;> simp [channelsBelow, h]
  | 1 => cases h0 : P 0 <;> cases h1 : P 1 <;> simp [channelsBelow, h0, h1]

/-- TINT of a channel. -/
def State.pending (s : State) (c : Fin 2) : Bool := s.timers[c].tcsr.tint

/-- The channel is pending and its action is `a`. -/
def State.owes (s : State) (a : ChAction) (c : Fin 2) : Bool := s.pending c && decide (s.cfg.chAction[c] = a)

theorem State.pendingChannels_eq (s : State) : s.pendingChannels = channelsBelow s.cfg.nTch.val s.pending := rfl

theorem State.pendingWith_eq (s : State) (a : ChAction) :
    s.pendingWith a = channelsBelow s.cfg.nTch.val (s.owes a) := by
  simp only [State.pendingWith, channelsBelow, State.owes, State.pending, Bool.and_assoc]

/-- The state u of an invocation entered from s in which the channels below k have been served: their flags are cleared and
the action of each that was pending is done once; the others are as at entry. -/
structure ServedBelow (s : State) (k : Nat) (u : State) : Prop where
  cfg : u.cfg = s.cfg
  directed : u.triWrittenOut = true
  faults : u.faults = s.faults
  refused : u.refused = s.refused
  timers : ∀ c : Fin 2, u.timers[c] = if c.val < k then s.timers[c].acknowledged else s.timers[c]
  phase : u.phase = s.phase + BitVec.ofNat 8 (channelsBelow k (s.owes .pwmTick))
  blink : u.blink = s.blink ↔ channelsBelow k (s.owes .blinkToggle) % 2 = 0
  expired : u.expired = s.expired
  merged : u.merged = s.merged

theorem servedBelow_zero {s : State} (hdir : s.triWrittenOut = true) : ServedBelow s 0 s where
  cfg := rfl
  directed := hdir
  faults := rfl
  refused := rfl
  timers _ := rfl
  phase := (BitVec.add_zero _).symm
  blink := iff_of_true rfl rfl
  expired := rfl
  merged := rfl

/-- The position, the latch, ISR and the record of the step are no part of it. -/
theorem ServedBelow.frame {s u : State} {k : Nat} (h : ServedBelow s k u) (q : Seq) (w : Word) (isr : Bool) (n : Nat)
    (a : Agent) (r : Resp) :
    ServedBelow s k { u with seq := q, v := w, isr := isr, steps := n, issuer := a, resp := r } :=
  ⟨h.cfg, h.directed, h.faults, h.refused, h.timers, h.phase, h.blink, h.expired, h.merged⟩

theorem ServedBelow.timers_next {s u : State} {c : Fin 2} (h : ServedBelow s c.val u) : u.timers[c] = s.timers[c] :=
  (h.timers c).trans (if_neg (Nat.lt_irrefl _))

/-- A channel other than c lies below c + 1 exactly where it lies below c. -/
theorem lt_succ_iff_of_ne {c c' : Fin 2} (h : c ≠ c') : c'.val < c.val + 1 ↔ c'.val < c.val := by
  omega

theorem acknowledged_of_not_pending {x : Timer} (h : x.tcsr.tint = false) : x.acknowledged = x := by
  obtain ⟨⟨udt, arht, load, enit, ent, tint⟩, tlr, tcr⟩ := x
  obtain rfl : tint = false := h
  rfl

theorem toggle_iff {b b' : Bool} {n : Nat} (h : b = b' ↔ n % 2 = 0) : (!b) = b' ↔ (n + 1) % 2 = 0 := by
  cases b <;> cases b' <;> simp at h ⊢ <;> omega

/-- A channel that is not pending is passed over (60_exceptions R212). -/
theorem ServedBelow.skip {s u : State} {c : Fin 2} (h : ServedBelow s c.val u) (ht : s.pending c = false) :
    ServedBelow s (c.val + 1) u := by
  have howes : ∀ a, channelsBelow (c.val + 1) (s.owes a) = channelsBelow c.val (s.owes a) := fun a => by
    rw [channelsBelow_succ, State.owes, ht]
    rfl
  refine ⟨h.cfg, h.directed, h.faults, h.refused, fun c' => ?_, howes _ ▸ h.phase, howes _ ▸ h.blink, h.expired,
    h.merged⟩
  by_cases hc : c = c'
  · subst hc
    rw [h.timers_next, if_pos (Nat.lt_succ_self _), acknowledged_of_not_pending ht]
  · simp only [h.timers c', lt_succ_iff_of_ne hc]

/-- A pending channel is acknowledged, and its action is done (60_exceptions R213, R214). -/
theorem ServedBelow.serve {s u : State} {c : Fin 2} (h : ServedBelow s c.val u) (ht : s.pending c = true) (w : Word) :
    ServedBelow s (c.val + 1) { u with
      timers := u.timers.set c u.timers[c].acknowledged
      phase := if u.cfg.chAction[c] = .pwmTick then u.phase + 1 else u.phase
      gpioOutData := w
      blink := if u.cfg.chAction[c] = .blinkToggle then !u.blink else u.blink } := by
  have howes : ∀ a, channelsBelow (c.val + 1) (s.owes a)
      = channelsBelow c.val (s.owes a) + if u.cfg.chAction[c] = a then 1 else 0 := fun a => by
    rw [channelsBelow_succ, State.owes, ht, h.cfg]
    simp
  refine ⟨h.cfg, h.directed, h.faults, h.refused, fun c' => ?_, ?_, ?_, h.expired, h.merged⟩
  · by_cases hc : c = c'
    · subst hc
      rw [channel_set_self, h.timers_next, if_pos (Nat.lt_succ_self _)]
    · rw [channel_set_ne _ _ hc]
      simp only [h.timers c', lt_succ_iff_of_ne hc]
  · rw [howes]
    split
    · rw [h.phase, BitVec.add_assoc, ofNat_next]
    · exact h.phase
  · rw [howes]
    dsimp only
    split
    · exact toggle_iff h.blink
    · exact h.blink

/-- The steps of one channel: RD, and for a pending one ACK and ACT. -/
theorem busyRun_channel {s u : State} {c : Fin 2} (hs : s.TimersSound) (h : ServedBelow s c.val u)
    (hseq : u.seq = .rd c) (hc : c.val < s.cfg.nTch.val) :
    ∃ t, BusyRun (1 + 2 * if s.pending c then 1 else 0) u t ∧ ServedBelow s (c.val + 1) t
      ∧ t.seq = .afterChannel s.cfg c := by
  have hcu : c.val < u.cfg.nTch.val := h.cfg ▸ hc
  have hrd := handlerStep_rd_row hseq hcu
  have hbusy : u.seq ≠ .idle := hseq ▸ nofun
  have htint : u.timers[c].tcsr.tint = s.pending c := by rw [h.timers_next, State.pending]
  cases ht : s.pending c with
  | false =>
    rw [htint, ht] at hrd
    exact ⟨_, .step hbusy hrd (.done _), (h.skip ht).frame _ _ _ _ _ _, congrArg (Seq.afterChannel · c) h.cfg⟩
  | true =>
    have hsound : u.timers[c].tcsr.Sound := h.timers_next ▸ (hs c).1
    have hpending : u.timers[c].tcsr.tint = true := htint.trans ht
    rw [hpending, Tcsr.toWord_of_pending hsound hpending] at hrd
    exact ⟨_, .step hbusy hrd <| .step nofun (handlerStep_ack_row (c := c) rfl hcu rfl hsound hpending) <|
      .step nofun (handlerStep_act_row (c := c) rfl fun _ => h.directed) (.done _),
      (h.serve ht _).frame _ _ _ _ _ _, congrArg (Seq.afterChannel · c) h.cfg⟩

/-- The position after the channels below k: `RD(k)` while there is one, then `IAR` (60_exceptions R210). -/
def Seq.afterBelow (cfg : Config) (k : Nat) : Seq :=
  if h : k < cfg.nTch.val then .rd ⟨k, by omega⟩ else .iar

theorem Seq.afterBelow_succ (cfg : Config) (c : Fin 2) : Seq.afterBelow cfg (c.val + 1) = .afterChannel cfg c := rfl

theorem busyRun_channelsBelow {s u : State} (hs : s.TimersSound) (h : ServedBelow s 0 u)
    (hseq : u.seq = .afterBelow s.cfg 0) {k : Nat} (hk : k ≤ s.cfg.nTch.val) :
    ∃ t, BusyRun (k + 2 * channelsBelow k s.pending) u t ∧ ServedBelow s k t ∧ t.seq = .afterBelow s.cfg k := by
  induction k with
  | zero => exact ⟨u, .done u, h, hseq⟩
  | succ k ih =>
    obtain ⟨t, hrun, ht, htseq⟩ := ih (Nat.le_of_succ_le hk)
    have hlt : k < 2 := by omega
    obtain ⟨t', hrun', ht', htseq'⟩ := busyRun_channel (c := ⟨k, hlt⟩) hs ht (htseq.trans (dif_pos hk)) hk
    refine ⟨t', ?_, ht', htseq'.trans (Seq.afterBelow_succ _ ⟨k, hlt⟩).symm⟩
    have hcount : channelsBelow (k + 1) s.pending
        = channelsBelow k s.pending + if s.pending ⟨k, hlt⟩ then 1 else 0 := channelsBelow_succ s.pending ⟨k, hlt⟩
    have htotal : k + 1 + 2 * channelsBelow (k + 1) s.pending
        = k + 2 * channelsBelow k s.pending + (1 + 2 * if s.pending ⟨k, hlt⟩ then 1 else 0) := by omega
    rw [htotal]
    exact hrun.trans hrun'

/-! ### One invocation (60_exceptions R219, R222) -/

theorem ServedBelow.tmrIrq {s u : State} (h : ServedBelow s s.cfg.nTch.val u) : u.tmrIrq = false := by
  have hchannel : ∀ c : Fin 2, u.channelIrq c = false := fun c => by
    rw [State.channelIrq, h.cfg, h.timers c]
    by_cases hc : c.val < s.cfg.nTch.val
    · rw [if_pos hc, Timer.acknowledged, Bool.and_false, Bool.false_and]
    · rw [decide_eq_false hc, Bool.false_and, Bool.false_and]
  rw [State.tmrIrq, hchannel, hchannel]
  rfl

/-- While the timer line is low the latch leaves ISR clear (42_interrupt_ack R150). -/
theorem State.endStep_isr_of_quiet {s : State} (hisr : s.isr = false) (hline : s.tmrIrq = false) :
    s.endStep.isr = false := by
  simp [State.endStep, hisr, hline]

theorem State.irq_of_isr_clear {s : State} (h : s.isr = false) : s.irq = false := by
  simp [State.irq, State.ipr, h]

/-- The steps IAR and RET once every channel is served: ISR is clear, and the line stays low. -/
theorem busyRun_return {s u : State} (h : ServedBelow s s.cfg.nTch.val u) (hseq : u.seq = .iar) :
    ∃ t, BusyRun 2 u t ∧ ServedBelow s s.cfg.nTch.val t ∧ t.seq = .idle ∧ t.irq = false := by
  have hline := h.tmrIrq
  have hbusy : u.seq ≠ .idle := hseq ▸ nofun
  refine ⟨_, .step hbusy (handlerStep_iar_row hseq) (.step nofun (handlerStep_ret_row rfl) (.done _)),
    h.frame _ _ _ _ _ _, rfl, State.irq_of_isr_clear (State.endStep_isr_of_quiet ?_ hline)⟩
  exact State.endStep_isr_of_quiet (s := { u with isr := false }) rfl hline

/-- A channel the configuration does not have is as it is at reset (log 18), so every channel is served. -/
theorem ServedBelow.timers_all {s u : State} (h : ServedBelow s s.cfg.nTch.val u) (hs : s.InRange) (c : Fin 2) :
    u.timers[c] = s.timers[c].acknowledged := by
  rw [h.timers c]
  split
  · rfl
  · rename_i hc
    obtain ⟨-, -, -, -, -, habsent⟩ := hs
    obtain ⟨hzero, -⟩ := habsent c (Nat.not_lt.1 hc)
    rw [hzero]
    rfl

/-- An invocation: entry, then the channels in order, then IAR and RET. -/
theorem invocation_returns_to_idle {s : State} (hs : s.Inv) (hseq : s.seq = .idle) (hdir : s.triWrittenOut = true) :
    ∃ e t, handlerStep s = .next e ∧ BusyRun (s.cfg.nTch.val + 2 * s.pendingChannels + 2) e.endStep t
      ∧ ServedBelow s s.cfg.nTch.val t ∧ t.seq = .idle ∧ t.irq = false := by
  obtain ⟨-, -, hchannels, -⟩ := hs.legal
  have hentry : ServedBelow s 0 (({ s with issuer := .seq, resp := .silent, seq := .rd 0 } : State).endStep) :=
    (servedBelow_zero hdir).frame _ _ _ _ _ _
  have hfirst : Seq.rd 0 = .afterBelow s.cfg 0 := by
    rw [Seq.afterBelow, dif_pos (Nat.lt_of_succ_le hchannels)]
    rfl
  obtain ⟨u, hrun, hu, huseq⟩ := busyRun_channelsBelow hs.timersSound hentry hfirst (Nat.le_refl _)
  obtain ⟨t, hreturn, ht⟩ := busyRun_return hu (huseq.trans (dif_neg (Nat.lt_irrefl _)))
  rw [s.pendingChannels_eq]
  exact ⟨_, t, handlerStep_idle_row hseq, hrun.trans hreturn, ht⟩

/-- Settles O52: the entry is one step, and the run that follows is busy until it has served every channel. -/
theorem invocationServesAllAndIsBounded : Obligations.InvocationServesAllAndIsBounded := by
  intro s hs hf hseq _ hdir
  obtain ⟨e, t, hentry, hrun, ht, hidle, hirq⟩ := invocation_returns_to_idle hs hseq hdir
  have htotal : 3 + s.cfg.nTch.val + 2 * s.pendingChannels = s.cfg.nTch.val + 2 * s.pendingChannels + 2 + 1 := by omega
  rw [htotal]
  refine ⟨⟨t, (handlerRun_succ _ hentry).trans hrun.handlerRun, hidle, hirq, ht.faults.trans hf, ht.refused,
    ht.timers_all hs.inRange, s.pendingWith_eq _ ▸ ht.phase, s.pendingWith_eq _ ▸ ht.blink, ht.expired, ht.merged⟩,
    fun n hpos hn => ?_⟩
  obtain ⟨m, rfl⟩ := Nat.exists_eq_succ_of_ne_zero (Nat.ne_of_gt hpos)
  rw [handlerRun_succ _ hentry]
  exact hrun.busy_before (Nat.lt_of_succ_lt_succ hn)

end Sys2Proof.Machine
end

section
/-! PROOFS. The statements of 70_reset_and_hazards: what RESET leaves in every element, and that power-on is the state RESET
leaves. -/

namespace Sys2Proof

theorem mayIssue_reset {a : Agent} (ha : a ≠ .env) : mayIssue a .reset = false := by
  cases a with
  | env => exact absurd rfl ha
  | host | seq | timer => rfl

theorem encode_reset : encode .reset = 0x6000000000000000 := by decide

namespace Machine

/-! ### What RESET leaves (70_reset_and_hazards R240) -/

theorem State.blockReset_line (s : State) (i : Fin 32) : s.blockReset.db[i] = .idle := Vector.getElem_replicate _

theorem State.blockReset_duty (s : State) (k : Fin 3) : s.blockReset.duty[k] = 0 := Vector.getElem_replicate _

theorem State.blockReset_gpioInTri_getLsbD (s : State) (j : Nat) :
    s.blockReset.gpioInTri.getLsbD j = decide (j < s.cfg.nLines.val) :=
  lowMask_getLsbD _ j (Nat.le_of_lt_succ s.cfg.nLines.isLt)

theorem State.blockReset_gpioOutTri_getLsbD (s : State) (j : Nat) :
    s.blockReset.gpioOutTri.getLsbD j = decide (j < s.cfg.nPwm.val) :=
  lowMask_getLsbD _ j (by omega)

/-- OUT_RESET has no bit above the word, so widening it to the latch loses none. -/
theorem State.blockReset_gpioOutData_getLsbD (s : State) (j : Fin 32) :
    s.blockReset.gpioOutData.getLsbD j.val = (decide (j.val < s.cfg.nPwm.val) && s.cfg.outReset.getLsbD j.val) := by
  have hwide : (s.cfg.outReset.setWidth 32).getLsbD j.val = s.cfg.outReset.getLsbD j.val := by
    rw [BitVec.getLsbD_setWidth, decide_eq_true j.isLt, Bool.true_and]
  exact (and_channels_getLsbD s.cfg _ j.val).trans (congrArg _ hwide)

/-- Settles O53: the flags and kept elements are the fields of `blockReset`, the vectors and masks their lemmas above. -/
theorem resetGivesEveryElementItsResetValue : Obligations.ResetGivesEveryElementItsResetValue := by
  refine ⟨encode_reset, fun cfg a ha => decode_encodeOther_wrongIssuer 0 0 (mayIssue_reset ha), fun s => ?_⟩
  refine ⟨s.blockReset.complete, rfl, rfl, rfl, rfl, rfl, rfl, fun c => ?_, rfl, rfl, rfl, rfl, s.blockReset_line, rfl, rfl,
    s.blockReset_duty, fun j => s.blockReset_gpioInTri_getLsbD j.val, fun j => s.blockReset_gpioOutTri_getLsbD j.val,
    s.blockReset_gpioOutData_getLsbD, rfl, rfl, rfl, rfl, rfl⟩
  rw [State.complete_timers, s.blockReset_channel]
  exact ⟨rfl, rfl, rfl⟩

/-! ### The power-on state (70_reset_and_hazards R241) -/

/-- Every element stands at its reset value and no response is held, so RESET changes nothing. -/
theorem exec_reset_powerOn (cfg : Config) : exec .reset (State.powerOn cfg) = .next (State.powerOn cfg) := rfl

theorem State.powerOn_counters (cfg : Config) (c : Fin 2) :
    (State.powerOn cfg).expired[c] = 0 ∧ (State.powerOn cfg).merged[c] = 0 :=
  ⟨Vector.getElem_replicate _, Vector.getElem_replicate _⟩

/-- Settles O54: RESET fixes the power-on state, and the default configuration is evaluated. -/
theorem powerOnIsTheResetState : Obligations.PowerOnIsTheResetState := by
  refine ⟨fun cfg => ⟨exec_reset_powerOn cfg, rfl, rfl, State.powerOn_counters cfg, ?_⟩, by decide⟩
  exact (State.powerOn cfg).blockReset_line

end Machine
end Sys2Proof
end
